-- ==== Sys2Proof/Word.lean ====
section
/-! DEFINITION. The word types of the CORE (rules R10, R12, R13): 32-bit words, bytes and 5-bit register numbers. -/

namespace Sys2Proof

/-- A 32-bit register, address or data word (rule R13). -/
abbrev Word := BitVec 32

/-- One byte of storage (rule R100). -/
abbrev Byte := BitVec 8

/-- A 5-bit register number, 0 to 31 (rule R166). -/
abbrev Reg := BitVec 5

end Sys2Proof
end

