-- ==== Sys2Proof/Config.lean ====
section
/-! DEFINITION. What one configuration of the CORE fixes (rule R11: `REGION_TABLE`, `IO_SUBRANGES`) as plain data, and
the free values the spec leaves open, as constants with no body. The default values stand in Machine/Platform.lean. -/

namespace Sys2Proof

/-- An interval `[base, base + size)` of addresses or offsets (rule R105). -/
structure Interval where
  base : Nat
  size : Nat
  deriving DecidableEq, Repr

/-- The configuration parameters of the memory bus (rules R106, R122, and U35 of spec/93 for the cache-control
window). The first five intervals are physical, `cacheControl` is virtual (rule R104). -/
structure Config where
  mainMemory : Interval
  scratchPad : Interval
  parallelPort : Interval
  ioWindow : Interval
  bootRom : Interval
  cacheControl : Interval
  /-- `IO_SUBRANGES`: the I/O-window offsets some device answers. -/
  ioSubranges : List Interval
  deriving DecidableEq, Repr

/-- FREE VALUE (rules R68, R69): what the `n`-th draw of the run gives as a word, for an MFC0 of JUMPDEST or of an
absent COP0 register. It has no body, so no proof can see it (log entry 4). -/
opaque Config.freeWord : Nat → Word

/-- FREE VALUE (rule R121): the byte the peripheral router answers to an `IoRead` of offset `off` at the `n`-th draw of
the run, where the host has queued no answer (log entry 5). -/
opaque Config.ioAnswer : (n off : Nat) → Byte

/-- FREE VALUE (rule R136): the byte a storage address holds at launch where the host gives nothing (log entry 3). -/
opaque Config.launchByte : (address : Nat) → Byte

end Sys2Proof
end

