-- ==== Sys2Proof/Machine/Platform.lean ====
section
/-! DEFINITION. The values this spec fixes for the CORE's parameters (rules R10, R11): the default `REGION_TABLE` and
`IO_SUBRANGES`, when a configuration is one of this hardware, the vectors and the special-register constants. -/

namespace Sys2Proof

/-- Whether an address lies in the interval `[base, base + size)` (rule R108). -/
def Interval.contains (r : Interval) (a : Nat) : Bool := decide (r.base ≤ a) && decide (a < r.base + r.size)

/-- Whether two intervals share no address (rule R107). -/
def Interval.disjoint (p q : Interval) : Bool :=
  p.size == 0 || q.size == 0 || decide (p.base + p.size ≤ q.base) || decide (q.base + q.size ≤ p.base)

/-- Whether start and size are multiples of 4 (rule R107). -/
def Interval.aligned (p : Interval) : Bool := p.base % 4 == 0 && p.size % 4 == 0

/-- The six intervals of the region table (rule R106). -/
def Config.intervals (c : Config) : List Interval :=
  [c.mainMemory, c.scratchPad, c.parallelPort, c.ioWindow, c.bootRom, c.cacheControl]

/-- Whether no interval of a list shares an address with a later one. -/
def pairwiseDisjoint : List Interval → Bool
  | [] => true
  | p :: rest => rest.all (fun q => p.disjoint q) && pairwiseDisjoint rest

/-- A `REGION_TABLE` of this hardware: pairwise disjoint regions, every start and size a multiple of 4 (rule R107).
DESIGN CHOICE (log entry 14): no more is asked, so a table may place a region at physical 0x20000000 or above, and user
addresses then match it; rule R102's sentence that these addresses match no region holds of every table whose physical
regions end by 0x20000000, the default one among them (`matchRegion_above`, Laws/Bus.lean). DESIGN CHOICE (log entry 9):
the cache-control window is one of the intervals. -/
def Config.valid (c : Config) : Bool := c.intervals.all Interval.aligned && pairwiseDisjoint c.intervals

/-- The default `REGION_TABLE` (rule R106), the cache-control window (rule R104) and `IO_SUBRANGES`, the whole window
(rule R122). -/
def Config.default : Config where
  mainMemory := ⟨0x00000000, 0x00200000⟩
  scratchPad := ⟨0x1F800000, 0x00000400⟩
  parallelPort := ⟨0x1F000000, 0x00080000⟩
  ioWindow := ⟨0x1F801000, 0x00002000⟩
  bootRom := ⟨0x1FC00000, 0x00080000⟩
  cacheControl := ⟨0xFFFE0000, 0x00000200⟩
  ioSubranges := [⟨0, 0x2000⟩]

/-- The reset vector (rule R451). -/
def resetVector : Word := 0xBFC00000#32

/-- The general exception vector with SR.BEV = 0 (rule R415). -/
def generalVector : Word := 0x80000080#32

/-- The general exception vector with SR.BEV = 1 (rule R415). -/
def bootVector : Word := 0xBFC00180#32

/-- `PRID_VALUE` (rule R67). -/
def pridValue : Word := 0x00000002#32

/-- The bits of SR that MTC0 writes; the others read 0 (rules R61, R62). -/
def srWriteMask : Word := 0xF27FFF3F#32

/-- The bits of CAUSE that do not always read 0: BD, CE, IP and ExcCode (rule R63). -/
def causeMask : Word := 0xB000FF7C#32

/-- SR.BEV as a mask, the one SR bit reset sets (rules R61, R450). -/
def srBevMask : Word := 0x00400000#32

end Sys2Proof
end

