-- ==== Sys2Proof/Machine/State.lean ====
section
/-! DEFINITION. The state of the CORE (spec/10_state.md, and the inputs and events the host sees), as plain data, why a
step can stop, and the state after reset. -/

namespace Sys2Proof.Machine

/-- The register file: three stages of 32 words (rule R40). -/
structure RegFile where
  stage1 : Vector Word 32
  stage2 : Vector Word 32
  stage3 : Vector Word 32
  deriving DecidableEq, Repr

/-- The COP0 data registers that hold a value (rule R60). PRId (15) is the constant `pridValue`; JUMPDEST (6) and
registers 0, 1, 2, 4, 10 and 16 to 31 hold none: every read of them is a draw (rules R68, R69). -/
structure Cop0 where
  /-- Register 3, breakpoint on execute address (rule R68). -/
  bpc : Word
  /-- Register 5, breakpoint on data address (rule R68). -/
  bda : Word
  /-- Register 7, breakpoint control (rule R68). -/
  dcic : Word
  /-- Register 8 (rule R66). -/
  badVaddr : Word
  /-- Register 9, data breakpoint mask (rule R68). -/
  bdam : Word
  /-- Register 11, execute breakpoint mask (rule R68). -/
  bpcm : Word
  /-- Register 12, the status register (rules R61, R62). -/
  sr : Word
  /-- Register 13 (rules R63, R64). -/
  cause : Word
  /-- Register 14 (rule R65). -/
  epc : Word
  deriving DecidableEq, Repr

/-- One call of the peripheral router (rule R121). -/
inductive IoEvent where
  /-- `IoRead(off)` and the byte answered. -/
  | read (off : Nat) (b : Byte)
  /-- `IoWrite(off, b)`. -/
  | write (off : Nat) (b : Byte)
  deriving DecidableEq, Repr

/-- How a step that was not refused ended (rule R401). -/
inductive StepEnd where
  /-- The instruction completed (rule R52). -/
  | retired
  /-- An exception was entered, with its code (rules R410, R411). -/
  | excepted (code : BitVec 5)
  deriving DecidableEq, Repr

/-- The storage regions' known bytes: (storage address, byte) pairs in canonical form (`Memory.wf`, Machine/Memory.lean).
The storage address is the physical address, and for the cache-control window the virtual one (rules R104, R108). -/
abbrev Memory := List Host.Cell

/-- The whole state of the CORE. -/
structure State where
  /-- The general registers (rule R40). -/
  regs : RegFile
  /-- Address of the executing instruction (rule R50). -/
  pc : Word
  /-- Address of the instruction that runs after it (rule R50). -/
  npc : Word
  /-- Whether the instruction at `pc` is in a branch delay slot (rule R51). -/
  bd : Bool
  /-- Accumulators (rule R56). -/
  hi : Word
  lo : Word
  /-- The system-control coprocessor's registers (rule R60). -/
  cop0 : Cop0
  /-- The geometry coprocessor's data registers (rule R80). -/
  cop2d : Vector Word 32
  /-- The geometry coprocessor's control registers (rule R80). -/
  cop2c : Vector Word 32
  /-- Contents of main memory, scratch pad, parallel port, boot ROM and cache-control window (rules R110 to R115). -/
  mem : Memory
  /-- The configuration of the run: `REGION_TABLE` and `IO_SUBRANGES` (rules R106, R122). No instruction changes it. -/
  cfg : Config
  /-- `INT_LINES`: the level of the six interrupt inputs (rule R420). -/
  intLines : BitVec 6
  /-- The levels the host drives at the coming steps, the next step's first; where it is empty the lines keep their
  level (rules R420, R471). -/
  lineInputs : List (BitVec 6)
  /-- The bytes the host has queued as the router's next answers; where it is empty an answer is a free value (rules
  R121, R471). -/
  ioAnswers : List Byte
  /-- The calls of the peripheral router so far, the latest first (rule R121). -/
  ioTrace : List IoEvent
  /-- The MODEL's own counter of the free values drawn so far. -/
  draws : Nat
  /-- How the last step ended (rule R401); none before the first step. -/
  lastStep : Option StepEnd
  deriving DecidableEq, Repr

/-- The machine never stops with a fault: every fault of the spec is an exception the program sees (rules R401, R403),
so this type has no constructor and no step can answer `fault`. -/
inductive Fault where
  deriving DecidableEq, Repr

/-- The reasons of rule R404. Each is a case the spec itself refuses; stopping there is SAFE (a claim about such a run is
unprovable, never false). -/
inductive Refusal where
  /-- Raised by exec's arm of an instruction that has no meaning yet (no arm has it in this model). Safe. -/
  | notModelled (mnemonic : String)
  /-- Raised by COP2 functions, COP0 functions other than RFE, CFC0, CTC0, LWC0, SWC0 and BCzF/BCzT, after the usability
  check (rules R347, R348, R350, R357, R358, R361). Safe. -/
  | unimplemented
  /-- Raised by the step for BCOND with an undefined `rt` (rule R174). Safe. -/
  | undecodedBcond
  /-- Raised by a data load while SR.IsC = 1 (rule R129). Safe. -/
  | isolatedCacheLoad
  /-- Raised by MTC0 of a non-zero value to DCIC (rule R68). Safe. -/
  | debugNotModelled
  /-- Raised by a COP1 or COP3 instruction whose CU bit is set (rule R344). Safe. -/
  | noCoprocessor
  /-- Raised by the host operation reset for a `REGION_TABLE` that breaks rule R107, before any step. Safe. -/
  | badConfiguration
  deriving DecidableEq, Repr

/-- The state right after reset (rules R450 to R452) with the default configuration, nothing loaded and the lines low.
HI, LO, the unspecified bits of SR and CAUSE, EPC, BadVaddr, the debug registers and the COP2 registers are draws in the
spec; here each is 0, DESIGN CHOICE, unsafe (log entry 1). `applyReset` (Machine/HostOps.lean) takes any draws. -/
def State.reset : State where
  regs := ⟨Vector.replicate 32 0#32, Vector.replicate 32 0#32, Vector.replicate 32 0#32⟩
  pc := resetVector
  npc := resetVector + 4#32
  bd := false
  hi := 0#32
  lo := 0#32
  cop0 :=
    { bpc := 0#32, bda := 0#32, dcic := 0#32, badVaddr := 0#32, bdam := 0#32, bpcm := 0#32
      sr := srBevMask, cause := 0#32, epc := 0#32 }
  cop2d := Vector.replicate 32 0#32
  cop2c := Vector.replicate 32 0#32
  mem := []
  cfg := Config.default
  intLines := 0#6
  lineInputs := []
  ioAnswers := []
  ioTrace := []
  draws := 0
  lastStep := none

end Sys2Proof.Machine
end

