-- ==== Sys2Proof/Machine/Registers.lean ====
section
/-! DEFINITION. The register file and its load-delay stages (rules R40 to R49). -/

namespace Sys2Proof.Machine

/-- `get(i)`: stage 3, or 0 for register 0 (rule R41). -/
def RegFile.get (f : RegFile) (r : Reg) : Word := if r = 0#5 then 0#32 else f.stage3[r.toNat]

/-- `set(i, v, delayed=false)`: all three stages at once, nothing for register 0 (rule R42). -/
def RegFile.set (f : RegFile) (r : Reg) (v : Word) : RegFile :=
  if r = 0#5 then f
  else ⟨f.stage1.set r.toNat v, f.stage2.set r.toNat v, f.stage3.set r.toNat v⟩

/-- `set(i, v, delayed=true)`: only stage 1, nothing for register 0 (rule R43). -/
def RegFile.setLate (f : RegFile) (r : Reg) (v : Word) : RegFile :=
  if r = 0#5 then f else { f with stage1 := f.stage1.set r.toNat v }

/-- `tick()`: stage 2 moves to stage 3, then stage 1 to stage 2 (rule R44). -/
def RegFile.tick (f : RegFile) : RegFile := ⟨f.stage1, f.stage1, f.stage2⟩

/-- The read `x[r]` of rule R14. -/
def State.x (s : State) (r : Reg) : Word := s.regs.get r

/-- The non-delayed write `x[r] <- v` of rule R14. -/
def State.setX (s : State) (r : Reg) (v : Word) : State := { s with regs := s.regs.set r v }

/-- The delayed write `x[r] <-delayed v` of rule R14. -/
def State.setXLate (s : State) (r : Reg) (v : Word) : State := { s with regs := s.regs.setLate r v }

/-- The write of both accumulators (rules R202, R203). -/
def State.setHiLo (s : State) (hi lo : Word) : State := { s with hi := hi, lo := lo }

end Sys2Proof.Machine
end

