-- ==== Sys2Proof/Machine/Flags.lean ====
section
/-! DEFINITION. The CORE has no flag register (rule R55). What stands in its place: signed overflow, which is trapped
(rule R201), comparison results, which go to a GPR, and the fields of SR and CAUSE (rules R61, R63). -/

namespace Sys2Proof.Machine

/-- The result of an exact signed sum or difference: none on signed overflow, otherwise the 32-bit word (rule R201). -/
def fitSigned (r : Int) : Option Word :=
  if r < -2147483648 ∨ 2147483647 < r then none else some (BitVec.ofInt 32 r)

/-- ADD and ADDI: the exact signed sum (rules R201, R223, R291). -/
def addSigned (a b : Word) : Option Word := fitSigned (a.toInt + b.toInt)

/-- SUB: the exact signed difference (rules R201, R225). -/
def subSigned (a b : Word) : Option Word := fitSigned (a.toInt - b.toInt)

/-- A comparison's result in a GPR: 1 or 0 (rule R55). -/
def truth (b : Bool) : Word := if b then 1#32 else 0#32

/-- `signed(a) < signed(b)` (rule R13). -/
def lessSigned (a b : Word) : Bool := decide (a.toInt < b.toInt)

/-- `unsigned(a) < unsigned(b)` (rule R13). -/
def lessUnsigned (a b : Word) : Bool := decide (a.toNat < b.toNat)

/-- SR.IEc: interrupts may be taken (rule R61). -/
def State.interruptEnable (s : State) : Bool := s.cop0.sr.getLsbD 0

/-- SR.KUc = 1: user mode (rules R61, R430). -/
def State.userMode (s : State) : Bool := s.cop0.sr.getLsbD 1

/-- SR.IsC: the cache is isolated (rule R61). -/
def State.isolated (s : State) : Bool := s.cop0.sr.getLsbD 16

/-- SR.BEV: boot exception vectors (rule R61). -/
def State.bootVectors (s : State) : Bool := s.cop0.sr.getLsbD 22

/-- SR.CUz: coprocessor z usable (rule R61). -/
def State.copEnabled (s : State) (z : BitVec 2) : Bool := s.cop0.sr.getLsbD (28 + z.toNat)

/-- SR.IM and CAUSE.IP share a set bit (rule R421). -/
def State.requestUnmasked (s : State) : Bool :=
  s.cop0.sr.extractLsb' 8 8 &&& s.cop0.cause.extractLsb' 8 8 != 0#8

/-- The push of the (KU, IE) stack by exception entry: `SR[5:0] <- SR[3:0] || 00` (rule R414). -/
def pushStatus (sr : Word) : Word := sr.extractLsb' 6 26 ++ sr.extractLsb' 0 4 ++ 0#2

/-- The pop of the (KU, IE) stack by RFE: `SR[3:0] <- SR[5:2]` (rule R349). -/
def popStatus (sr : Word) : Word := sr.extractLsb' 4 28 ++ sr.extractLsb' 2 4

/-- CAUSE with the interrupt lines sampled into bits 15:10 (rules R63, R420). -/
def sampleCause (cause : Word) (lines : BitVec 6) : Word :=
  cause.extractLsb' 16 16 ++ lines ++ cause.extractLsb' 0 10

/-- CAUSE with the software interrupt bits 9:8 of an MTC0 (rule R64). -/
def writeCause (cause v : Word) : Word :=
  cause.extractLsb' 10 22 ++ v.extractLsb' 8 2 ++ cause.extractLsb' 0 8

/-- CAUSE as exception entry leaves it: BD, CE where the exception gives one, ExcCode (rules R64, R410). -/
def enterCause (cause : Word) (bd : Bool) (ce : Option (BitVec 2)) (code : BitVec 5) : Word :=
  BitVec.ofBool bd ++ cause.extractLsb' 30 1 ++ ce.getD (cause.extractLsb' 28 2) ++ cause.extractLsb' 7 21 ++ code
    ++ cause.extractLsb' 0 2

end Sys2Proof.Machine
end

