-- ==== Sys2Proof/Machine/Memory.lean ====
section
/-! DEFINITION. The byte store behind the storage regions: a list of (storage address, byte) pairs in ONE canonical form,
addresses strictly rising. An unlisted address is one whose byte nobody has given: `Memory.read` answers none for it,
so no listed entry can equal it, and the bus reads it as the free value `Config.launchByte` (rule R136, log entry 3). -/

namespace Sys2Proof.Machine

/-- The known byte at a storage address, none where it is unlisted. -/
def Memory.read : Memory → Nat → Option Byte
  | [], _ => none
  | (k, b) :: rest, a => if a = k then some b else Memory.read rest a

/-- Put a byte at a storage address, keeping the addresses strictly rising. -/
def Memory.write : Memory → Nat → Byte → Memory
  | [], a, b => [(a, b)]
  | (k, v) :: rest, a, b =>
    if a < k then (a, b) :: (k, v) :: rest
    else if a = k then (a, b) :: rest
    else (k, v) :: Memory.write rest a b

/-- Whether every address of a memory lies above `lo`. -/
def Memory.above (lo : Nat) : Memory → Bool
  | [] => true
  | (k, _) :: rest => decide (lo < k) && Memory.above lo rest

/-- The canonical form: addresses strictly rising. -/
def Memory.wf : Memory → Bool
  | [] => true
  | (k, _) :: rest => Memory.above k rest && Memory.wf rest

/-- What a storage address reads as (rules R110 to R115): its known byte, or, where nothing has given one, the free
launch byte of that address (rule R136). -/
def Memory.byte (m : Memory) (a : Nat) : Byte := (Memory.read m a).getD (Config.launchByte a)

end Sys2Proof.Machine
end

