-- ==== Sys2Proof/Syntax.lean ====
section
/-! DEFINITION. The instructions of the CORE (rule R171): one constructor per row of spec/opcode_table.json, in the
table's order. Operands stand in the order of the assembler syntax of rule R179; a field an instruction does not use
(rule R172) is no operand. -/

namespace Sys2Proof

/-- One decoded instruction. -/
inductive Instr where
  -- SPECIAL (rules R205 to R232)
  | sll (rd rt : Reg) (shamt : BitVec 5)
  | srl (rd rt : Reg) (shamt : BitVec 5)
  | sra (rd rt : Reg) (shamt : BitVec 5)
  | sllv (rd rt rs : Reg)
  | srlv (rd rt rs : Reg)
  | srav (rd rt rs : Reg)
  | jr (rs : Reg)
  | jalr (rd rs : Reg)
  | syscall (code : BitVec 20)
  | brk (code : BitVec 20)
  | mfhi (rd : Reg)
  | mthi (rs : Reg)
  | mflo (rd : Reg)
  | mtlo (rs : Reg)
  | mult (rs rt : Reg)
  | multu (rs rt : Reg)
  | div (rs rt : Reg)
  | divu (rs rt : Reg)
  | add (rd rs rt : Reg)
  | addu (rd rs rt : Reg)
  | sub (rd rs rt : Reg)
  | subu (rd rs rt : Reg)
  | and (rd rs rt : Reg)
  | or (rd rs rt : Reg)
  | xor (rd rs rt : Reg)
  | nor (rd rs rt : Reg)
  | slt (rd rs rt : Reg)
  | sltu (rd rs rt : Reg)
  -- BCOND, jumps and branches (rules R262 to R271)
  | bltz (rs : Reg) (imm : BitVec 16)
  | bgez (rs : Reg) (imm : BitVec 16)
  | bltzal (rs : Reg) (imm : BitVec 16)
  | bgezal (rs : Reg) (imm : BitVec 16)
  | j (target : BitVec 26)
  | jal (target : BitVec 26)
  | beq (rs rt : Reg) (imm : BitVec 16)
  | bne (rs rt : Reg) (imm : BitVec 16)
  | blez (rs : Reg) (imm : BitVec 16)
  | bgtz (rs : Reg) (imm : BitVec 16)
  -- immediate ALU (rules R291 to R298)
  | addi (rt rs : Reg) (imm : BitVec 16)
  | addiu (rt rs : Reg) (imm : BitVec 16)
  | slti (rt rs : Reg) (imm : BitVec 16)
  | sltiu (rt rs : Reg) (imm : BitVec 16)
  | andi (rt rs : Reg) (imm : BitVec 16)
  | ori (rt rs : Reg) (imm : BitVec 16)
  | xori (rt rs : Reg) (imm : BitVec 16)
  | lui (rt : Reg) (imm : BitVec 16)
  -- memory access (rules R313 to R324)
  | lb (rt rs : Reg) (imm : BitVec 16)
  | lh (rt rs : Reg) (imm : BitVec 16)
  | lwl (rt rs : Reg) (imm : BitVec 16)
  | lw (rt rs : Reg) (imm : BitVec 16)
  | lbu (rt rs : Reg) (imm : BitVec 16)
  | lhu (rt rs : Reg) (imm : BitVec 16)
  | lwr (rt rs : Reg) (imm : BitVec 16)
  | sb (rt rs : Reg) (imm : BitVec 16)
  | sh (rt rs : Reg) (imm : BitVec 16)
  | swl (rt rs : Reg) (imm : BitVec 16)
  | sw (rt rs : Reg) (imm : BitVec 16)
  | swr (rt rs : Reg) (imm : BitVec 16)
  -- COP0 (rules R345 to R350, R357)
  | mfc0 (rt rd : Reg)
  | cfc0 (rt rd : Reg)
  | mtc0 (rt rd : Reg)
  | ctc0 (rt rd : Reg)
  | bc0f (imm : BitVec 16)
  | bc0t (imm : BitVec 16)
  | rfe
  | cop0 (cofun : BitVec 25)
  | lwc0 (rt rs : Reg) (imm : BitVec 16)
  | swc0 (rt rs : Reg) (imm : BitVec 16)
  -- COP2 (rules R351 to R358)
  | mfc2 (rt rd : Reg)
  | cfc2 (rt rd : Reg)
  | mtc2 (rt rd : Reg)
  | ctc2 (rt rd : Reg)
  | bc2f (imm : BitVec 16)
  | bc2t (imm : BitVec 16)
  | cop2 (cofun : BitVec 25)
  | lwc2 (rt rs : Reg) (imm : BitVec 16)
  | swc2 (rt rs : Reg) (imm : BitVec 16)
  -- the absent coprocessors (rule R344); `body` is every bit below the opcode
  | cop1 (body : BitVec 26)
  | lwc1 (rt rs : Reg) (imm : BitVec 16)
  | swc1 (rt rs : Reg) (imm : BitVec 16)
  | cop3 (body : BitVec 26)
  | lwc3 (rt rs : Reg) (imm : BitVec 16)
  | swc3 (rt rs : Reg) (imm : BitVec 16)
  deriving DecidableEq, Repr

end Sys2Proof
end

