-- ==== Sys2Proof/WellFormed.lean ====
section
/-! DEFINITION. Which instructions are well formed. Every operand is exactly as wide as its field, so the one thing left
to check is the side condition of the opcode table's COP0 row: "every COP0 function word not matched by RFE". -/

namespace Sys2Proof

/-- The well-formed instructions: a COP0 function word is another COP0 function than RFE's `funct = 0x10` (rules R349,
R350). -/
def Instr.wf : Instr → Bool
  | .cop0 cofun => cofun.extractLsb' 0 6 != 0x10#6
  | .sll _ _ _ | .srl _ _ _ | .sra _ _ _ | .sllv _ _ _ | .srlv _ _ _ | .srav _ _ _ | .jr _ | .jalr _ _
  | .syscall _ | .brk _ | .mfhi _ | .mthi _ | .mflo _ | .mtlo _ | .mult _ _ | .multu _ _ | .div _ _
  | .divu _ _ | .add _ _ _ | .addu _ _ _ | .sub _ _ _ | .subu _ _ _ | .and _ _ _ | .or _ _ _ | .xor _ _ _
  | .nor _ _ _ | .slt _ _ _ | .sltu _ _ _ | .bltz _ _ | .bgez _ _ | .bltzal _ _ | .bgezal _ _ | .j _ | .jal _
  | .beq _ _ _ | .bne _ _ _ | .blez _ _ | .bgtz _ _ | .addi _ _ _ | .addiu _ _ _ | .slti _ _ _ | .sltiu _ _ _
  | .andi _ _ _ | .ori _ _ _ | .xori _ _ _ | .lui _ _ | .lb _ _ _ | .lh _ _ _ | .lwl _ _ _ | .lw _ _ _
  | .lbu _ _ _ | .lhu _ _ _ | .lwr _ _ _ | .sb _ _ _ | .sh _ _ _ | .swl _ _ _ | .sw _ _ _ | .swr _ _ _
  | .mfc0 _ _ | .cfc0 _ _ | .mtc0 _ _ | .ctc0 _ _ | .bc0f _ | .bc0t _ | .rfe | .lwc0 _ _ _ | .swc0 _ _ _
  | .mfc2 _ _ | .cfc2 _ _ | .mtc2 _ _ | .ctc2 _ _ | .bc2f _ | .bc2t _ | .cop2 _ | .lwc2 _ _ _ | .swc2 _ _ _
  | .cop1 _ | .lwc1 _ _ _ | .swc1 _ _ _ | .cop3 _ | .lwc3 _ _ _ | .swc3 _ _ _ => true

/-- `Instr.wf` as a proposition. -/
abbrev Instr.WellFormed (i : Instr) : Prop := i.wf = true

end Sys2Proof
end

