-- ==== Sys2Proof/Decode.lean ====
section
/-! DEFINITION. Decoding and encoding (spec/30_encoding.md). The decoder follows the algorithm of rule R178 with the
numbers of rules R167 to R170; it is total and rejects by name. The encoder is written from the same tables. -/

namespace Sys2Proof

/-! ### Byte order of an instruction word (rules R118, R128) -/

/-- The word whose bytes, from the lowest address up, are `b0 b1 b2 b3`: little-endian (rule R128). -/
def wordOfBytes (b0 b1 b2 b3 : Byte) : Word := b3 ++ b2 ++ b1 ++ b0

/-- Byte `k` of a word, byte 0 the least significant (rule R118). -/
def byteOf (w : Word) (k : Nat) : Byte := w.extractLsb' (8 * k) 8

/-! ### Fields (rules R160 to R163) -/

def opOf (w : Word) : BitVec 6 := w.extractLsb' 26 6
def rsOf (w : Word) : Reg := w.extractLsb' 21 5
def rtOf (w : Word) : Reg := w.extractLsb' 16 5
def rdOf (w : Word) : Reg := w.extractLsb' 11 5
def shamtOf (w : Word) : BitVec 5 := w.extractLsb' 6 5
def functOf (w : Word) : BitVec 6 := w.extractLsb' 0 6
def immOf (w : Word) : BitVec 16 := w.extractLsb' 0 16
def targetOf (w : Word) : BitVec 26 := w.extractLsb' 0 26
/-- The exception code field of SYSCALL and BREAK (rule R163). -/
def codeOf (w : Word) : BitVec 20 := w.extractLsb' 6 20
/-- `w[25]`: the bit that marks a coprocessor function (rule R170, conflict C3). -/
def coOf (w : Word) : BitVec 1 := w.extractLsb' 25 1
/-- The coprocessor function of COPz with `w[25] = 1` (rule R163). -/
def cofunOf (w : Word) : BitVec 25 := w.extractLsb' 0 25

/-! ### Decoding (rule R178) -/

/-- Why a word is no instruction of the table. What the step does about each is `rejectWord` (Machine/Cycle.lean). -/
inductive Reject where
  /-- A reserved primary opcode or SPECIAL function (rule R173): the step raises RI. -/
  | reservedInstruction
  /-- BCOND with an `rt` that is not 0x00, 0x01, 0x10 or 0x11 (rule R174): the step is refused. -/
  | undecodedBcond
  /-- COP0 with a reserved `rs` (rule R175): RI, after the usability check of COP0. -/
  | reservedCop0
  /-- COP2 with a reserved `rs` (rule R175): RI, after the usability check of COP2. -/
  | reservedCop2
  /-- BC0 with `rt` not 0 or 1 (rules R175, R357): refused, after the usability check of COP0. -/
  | undefinedBc0
  /-- BC2 with `rt` not 0 or 1 (rules R175, R357): refused, after the usability check of COP2. -/
  | undefinedBc2
  deriving DecidableEq, Repr

/-- SPECIAL (`op = 0x00`), by `funct` (rule R168). -/
def decodeSpecial (w : Word) : Except Reject Instr :=
  let rs := rsOf w
  let rt := rtOf w
  let rd := rdOf w
  match functOf w with
  | 0x00#6 => .ok (.sll rd rt (shamtOf w))
  | 0x02#6 => .ok (.srl rd rt (shamtOf w))
  | 0x03#6 => .ok (.sra rd rt (shamtOf w))
  | 0x04#6 => .ok (.sllv rd rt rs)
  | 0x06#6 => .ok (.srlv rd rt rs)
  | 0x07#6 => .ok (.srav rd rt rs)
  | 0x08#6 => .ok (.jr rs)
  | 0x09#6 => .ok (.jalr rd rs)
  | 0x0C#6 => .ok (.syscall (codeOf w))
  | 0x0D#6 => .ok (.brk (codeOf w))
  | 0x10#6 => .ok (.mfhi rd)
  | 0x11#6 => .ok (.mthi rs)
  | 0x12#6 => .ok (.mflo rd)
  | 0x13#6 => .ok (.mtlo rs)
  | 0x18#6 => .ok (.mult rs rt)
  | 0x19#6 => .ok (.multu rs rt)
  | 0x1A#6 => .ok (.div rs rt)
  | 0x1B#6 => .ok (.divu rs rt)
  | 0x20#6 => .ok (.add rd rs rt)
  | 0x21#6 => .ok (.addu rd rs rt)
  | 0x22#6 => .ok (.sub rd rs rt)
  | 0x23#6 => .ok (.subu rd rs rt)
  | 0x24#6 => .ok (.and rd rs rt)
  | 0x25#6 => .ok (.or rd rs rt)
  | 0x26#6 => .ok (.xor rd rs rt)
  | 0x27#6 => .ok (.nor rd rs rt)
  | 0x2A#6 => .ok (.slt rd rs rt)
  | 0x2B#6 => .ok (.sltu rd rs rt)
  | _ => .error .reservedInstruction

/-- BCOND (`op = 0x01`), by `rt` (rule R169). -/
def decodeBcond (w : Word) : Except Reject Instr :=
  match rtOf w with
  | 0x00#5 => .ok (.bltz (rsOf w) (immOf w))
  | 0x01#5 => .ok (.bgez (rsOf w) (immOf w))
  | 0x10#5 => .ok (.bltzal (rsOf w) (immOf w))
  | 0x11#5 => .ok (.bgezal (rsOf w) (immOf w))
  | _ => .error .undecodedBcond

/-- COP0 (`op = 0x10`): a function when `w[25] = 1`, otherwise by the selector `rs` (rules R170, R342, R349). -/
def decodeCop0 (w : Word) : Except Reject Instr :=
  if coOf w = 1#1 then
    if functOf w = 0x10#6 then .ok .rfe else .ok (.cop0 (cofunOf w))
  else
    match rsOf w with
    | 0x00#5 => .ok (.mfc0 (rtOf w) (rdOf w))
    | 0x02#5 => .ok (.cfc0 (rtOf w) (rdOf w))
    | 0x04#5 => .ok (.mtc0 (rtOf w) (rdOf w))
    | 0x06#5 => .ok (.ctc0 (rtOf w) (rdOf w))
    | 0x08#5 =>
      match rtOf w with
      | 0x00#5 => .ok (.bc0f (immOf w))
      | 0x01#5 => .ok (.bc0t (immOf w))
      | _ => .error .undefinedBc0
    | _ => .error .reservedCop0

/-- COP2 (`op = 0x12`): a GTE command when `w[25] = 1`, otherwise by the selector `rs` (rules R170, R342). -/
def decodeCop2 (w : Word) : Except Reject Instr :=
  if coOf w = 1#1 then .ok (.cop2 (cofunOf w))
  else
    match rsOf w with
    | 0x00#5 => .ok (.mfc2 (rtOf w) (rdOf w))
    | 0x02#5 => .ok (.cfc2 (rtOf w) (rdOf w))
    | 0x04#5 => .ok (.mtc2 (rtOf w) (rdOf w))
    | 0x06#5 => .ok (.ctc2 (rtOf w) (rdOf w))
    | 0x08#5 =>
      match rtOf w with
      | 0x00#5 => .ok (.bc2f (immOf w))
      | 0x01#5 => .ok (.bc2t (immOf w))
      | _ => .error .undefinedBc2
    | _ => .error .reservedCop2

/-- Decode one instruction word, by the primary opcode (rules R167, R178). -/
def decode (w : Word) : Except Reject Instr :=
  let rs := rsOf w
  let rt := rtOf w
  let imm := immOf w
  match opOf w with
  | 0x00#6 => decodeSpecial w
  | 0x01#6 => decodeBcond w
  | 0x02#6 => .ok (.j (targetOf w))
  | 0x03#6 => .ok (.jal (targetOf w))
  | 0x04#6 => .ok (.beq rs rt imm)
  | 0x05#6 => .ok (.bne rs rt imm)
  | 0x06#6 => .ok (.blez rs imm)
  | 0x07#6 => .ok (.bgtz rs imm)
  | 0x08#6 => .ok (.addi rt rs imm)
  | 0x09#6 => .ok (.addiu rt rs imm)
  | 0x0A#6 => .ok (.slti rt rs imm)
  | 0x0B#6 => .ok (.sltiu rt rs imm)
  | 0x0C#6 => .ok (.andi rt rs imm)
  | 0x0D#6 => .ok (.ori rt rs imm)
  | 0x0E#6 => .ok (.xori rt rs imm)
  | 0x0F#6 => .ok (.lui rt imm)
  | 0x10#6 => decodeCop0 w
  | 0x11#6 => .ok (.cop1 (targetOf w))
  | 0x12#6 => decodeCop2 w
  | 0x13#6 => .ok (.cop3 (targetOf w))
  | 0x20#6 => .ok (.lb rt rs imm)
  | 0x21#6 => .ok (.lh rt rs imm)
  | 0x22#6 => .ok (.lwl rt rs imm)
  | 0x23#6 => .ok (.lw rt rs imm)
  | 0x24#6 => .ok (.lbu rt rs imm)
  | 0x25#6 => .ok (.lhu rt rs imm)
  | 0x26#6 => .ok (.lwr rt rs imm)
  | 0x28#6 => .ok (.sb rt rs imm)
  | 0x29#6 => .ok (.sh rt rs imm)
  | 0x2A#6 => .ok (.swl rt rs imm)
  | 0x2B#6 => .ok (.sw rt rs imm)
  | 0x2E#6 => .ok (.swr rt rs imm)
  | 0x30#6 => .ok (.lwc0 rt rs imm)
  | 0x31#6 => .ok (.lwc1 rt rs imm)
  | 0x32#6 => .ok (.lwc2 rt rs imm)
  | 0x33#6 => .ok (.lwc3 rt rs imm)
  | 0x38#6 => .ok (.swc0 rt rs imm)
  | 0x39#6 => .ok (.swc1 rt rs imm)
  | 0x3A#6 => .ok (.swc2 rt rs imm)
  | 0x3B#6 => .ok (.swc3 rt rs imm)
  | _ => .error .reservedInstruction

/-- Decode any four bytes, lowest address first. -/
def decodeBytes (b0 b1 b2 b3 : Byte) : Except Reject Instr := decode (wordOfBytes b0 b1 b2 b3)

/-- The instruction the decoder reads from an instruction whose bits are the low `nbits` bits of `w`, every bit above
them 0, laid out in memory little-endian (rule R118). -/
def decodeTableWord (nbits w : Nat) : Option Instr :=
  let v : Word := BitVec.ofNat 32 (w % 2 ^ nbits)
  match decodeBytes (byteOf v 0) (byteOf v 1) (byteOf v 2) (byteOf v 3) with
  | .ok i => some i
  | .error _ => none

/-! ### Encoding (rules R160 to R170) -/

/-- The immediate form (rule R160). -/
def iForm (op : BitVec 6) (rs rt : Reg) (imm : BitVec 16) : Word := op ++ rs ++ rt ++ imm

/-- The register form (rule R161). -/
def rForm (op : BitVec 6) (rs rt rd : Reg) (shamt : BitVec 5) (funct : BitVec 6) : Word :=
  op ++ rs ++ rt ++ rd ++ shamt ++ funct

/-- The jump form (rule R162). -/
def jForm (op : BitVec 6) (target : BitVec 26) : Word := op ++ target

/-- The exception-code view of SYSCALL and BREAK (rule R163). -/
def codeForm (op : BitVec 6) (code : BitVec 20) (funct : BitVec 6) : Word := op ++ code ++ funct

/-- The coprocessor-function view, `w[25] = 1` (rule R163). -/
def coForm (op : BitVec 6) (cofun : BitVec 25) : Word := op ++ 1#1 ++ cofun

/-- The word of an instruction, with 0 in every field the instruction does not use. -/
def encode : Instr → Word
  | .sll rd rt sh => rForm 0x00 0 rt rd sh 0x00
  | .srl rd rt sh => rForm 0x00 0 rt rd sh 0x02
  | .sra rd rt sh => rForm 0x00 0 rt rd sh 0x03
  | .sllv rd rt rs => rForm 0x00 rs rt rd 0 0x04
  | .srlv rd rt rs => rForm 0x00 rs rt rd 0 0x06
  | .srav rd rt rs => rForm 0x00 rs rt rd 0 0x07
  | .jr rs => rForm 0x00 rs 0 0 0 0x08
  | .jalr rd rs => rForm 0x00 rs 0 rd 0 0x09
  | .syscall code => codeForm 0x00 code 0x0C
  | .brk code => codeForm 0x00 code 0x0D
  | .mfhi rd => rForm 0x00 0 0 rd 0 0x10
  | .mthi rs => rForm 0x00 rs 0 0 0 0x11
  | .mflo rd => rForm 0x00 0 0 rd 0 0x12
  | .mtlo rs => rForm 0x00 rs 0 0 0 0x13
  | .mult rs rt => rForm 0x00 rs rt 0 0 0x18
  | .multu rs rt => rForm 0x00 rs rt 0 0 0x19
  | .div rs rt => rForm 0x00 rs rt 0 0 0x1A
  | .divu rs rt => rForm 0x00 rs rt 0 0 0x1B
  | .add rd rs rt => rForm 0x00 rs rt rd 0 0x20
  | .addu rd rs rt => rForm 0x00 rs rt rd 0 0x21
  | .sub rd rs rt => rForm 0x00 rs rt rd 0 0x22
  | .subu rd rs rt => rForm 0x00 rs rt rd 0 0x23
  | .and rd rs rt => rForm 0x00 rs rt rd 0 0x24
  | .or rd rs rt => rForm 0x00 rs rt rd 0 0x25
  | .xor rd rs rt => rForm 0x00 rs rt rd 0 0x26
  | .nor rd rs rt => rForm 0x00 rs rt rd 0 0x27
  | .slt rd rs rt => rForm 0x00 rs rt rd 0 0x2A
  | .sltu rd rs rt => rForm 0x00 rs rt rd 0 0x2B
  | .bltz rs imm => iForm 0x01 rs 0x00 imm
  | .bgez rs imm => iForm 0x01 rs 0x01 imm
  | .bltzal rs imm => iForm 0x01 rs 0x10 imm
  | .bgezal rs imm => iForm 0x01 rs 0x11 imm
  | .j target => jForm 0x02 target
  | .jal target => jForm 0x03 target
  | .beq rs rt imm => iForm 0x04 rs rt imm
  | .bne rs rt imm => iForm 0x05 rs rt imm
  | .blez rs imm => iForm 0x06 rs 0 imm
  | .bgtz rs imm => iForm 0x07 rs 0 imm
  | .addi rt rs imm => iForm 0x08 rs rt imm
  | .addiu rt rs imm => iForm 0x09 rs rt imm
  | .slti rt rs imm => iForm 0x0A rs rt imm
  | .sltiu rt rs imm => iForm 0x0B rs rt imm
  | .andi rt rs imm => iForm 0x0C rs rt imm
  | .ori rt rs imm => iForm 0x0D rs rt imm
  | .xori rt rs imm => iForm 0x0E rs rt imm
  | .lui rt imm => iForm 0x0F 0 rt imm
  | .lb rt rs imm => iForm 0x20 rs rt imm
  | .lh rt rs imm => iForm 0x21 rs rt imm
  | .lwl rt rs imm => iForm 0x22 rs rt imm
  | .lw rt rs imm => iForm 0x23 rs rt imm
  | .lbu rt rs imm => iForm 0x24 rs rt imm
  | .lhu rt rs imm => iForm 0x25 rs rt imm
  | .lwr rt rs imm => iForm 0x26 rs rt imm
  | .sb rt rs imm => iForm 0x28 rs rt imm
  | .sh rt rs imm => iForm 0x29 rs rt imm
  | .swl rt rs imm => iForm 0x2A rs rt imm
  | .sw rt rs imm => iForm 0x2B rs rt imm
  | .swr rt rs imm => iForm 0x2E rs rt imm
  | .mfc0 rt rd => rForm 0x10 0x00 rt rd 0 0
  | .cfc0 rt rd => rForm 0x10 0x02 rt rd 0 0
  | .mtc0 rt rd => rForm 0x10 0x04 rt rd 0 0
  | .ctc0 rt rd => rForm 0x10 0x06 rt rd 0 0
  | .bc0f imm => iForm 0x10 0x08 0x00 imm
  | .bc0t imm => iForm 0x10 0x08 0x01 imm
  | .rfe => coForm 0x10 0x10
  | .cop0 cofun => coForm 0x10 cofun
  | .lwc0 rt rs imm => iForm 0x30 rs rt imm
  | .swc0 rt rs imm => iForm 0x38 rs rt imm
  | .mfc2 rt rd => rForm 0x12 0x00 rt rd 0 0
  | .cfc2 rt rd => rForm 0x12 0x02 rt rd 0 0
  | .mtc2 rt rd => rForm 0x12 0x04 rt rd 0 0
  | .ctc2 rt rd => rForm 0x12 0x06 rt rd 0 0
  | .bc2f imm => iForm 0x12 0x08 0x00 imm
  | .bc2t imm => iForm 0x12 0x08 0x01 imm
  | .cop2 cofun => coForm 0x12 cofun
  | .lwc2 rt rs imm => iForm 0x32 rs rt imm
  | .swc2 rt rs imm => iForm 0x3A rs rt imm
  | .cop1 body => jForm 0x11 body
  | .lwc1 rt rs imm => iForm 0x31 rs rt imm
  | .swc1 rt rs imm => iForm 0x39 rs rt imm
  | .cop3 body => jForm 0x13 body
  | .lwc3 rt rs imm => iForm 0x33 rs rt imm
  | .swc3 rt rs imm => iForm 0x3B rs rt imm

/-! ### The opcode table -/

/-- A row of spec/opcode_table.json: the word's fixed bits, which bits are fixed, and which bits decoding looks at or an
operand takes; the others are ignored (rule R172). -/
structure OpcodeRow where
  pattern : Word
  mask : Word
  used : Word
  deriving DecidableEq, Repr

/-- Each instruction's row of spec/opcode_table.json. -/
def Instr.row : Instr → OpcodeRow
  | .sll _ _ _ => ⟨0x00000000#32, 0xFC00003F#32, 0xFC1FFFFF#32⟩
  | .srl _ _ _ => ⟨0x00000002#32, 0xFC00003F#32, 0xFC1FFFFF#32⟩
  | .sra _ _ _ => ⟨0x00000003#32, 0xFC00003F#32, 0xFC1FFFFF#32⟩
  | .sllv _ _ _ => ⟨0x00000004#32, 0xFC00003F#32, 0xFFFFF83F#32⟩
  | .srlv _ _ _ => ⟨0x00000006#32, 0xFC00003F#32, 0xFFFFF83F#32⟩
  | .srav _ _ _ => ⟨0x00000007#32, 0xFC00003F#32, 0xFFFFF83F#32⟩
  | .jr _ => ⟨0x00000008#32, 0xFC00003F#32, 0xFFE0003F#32⟩
  | .jalr _ _ => ⟨0x00000009#32, 0xFC00003F#32, 0xFFE0F83F#32⟩
  | .syscall _ => ⟨0x0000000C#32, 0xFC00003F#32, 0xFFFFFFFF#32⟩
  | .brk _ => ⟨0x0000000D#32, 0xFC00003F#32, 0xFFFFFFFF#32⟩
  | .mfhi _ => ⟨0x00000010#32, 0xFC00003F#32, 0xFC00F83F#32⟩
  | .mthi _ => ⟨0x00000011#32, 0xFC00003F#32, 0xFFE0003F#32⟩
  | .mflo _ => ⟨0x00000012#32, 0xFC00003F#32, 0xFC00F83F#32⟩
  | .mtlo _ => ⟨0x00000013#32, 0xFC00003F#32, 0xFFE0003F#32⟩
  | .mult _ _ => ⟨0x00000018#32, 0xFC00003F#32, 0xFFFF003F#32⟩
  | .multu _ _ => ⟨0x00000019#32, 0xFC00003F#32, 0xFFFF003F#32⟩
  | .div _ _ => ⟨0x0000001A#32, 0xFC00003F#32, 0xFFFF003F#32⟩
  | .divu _ _ => ⟨0x0000001B#32, 0xFC00003F#32, 0xFFFF003F#32⟩
  | .add _ _ _ => ⟨0x00000020#32, 0xFC00003F#32, 0xFFFFF83F#32⟩
  | .addu _ _ _ => ⟨0x00000021#32, 0xFC00003F#32, 0xFFFFF83F#32⟩
  | .sub _ _ _ => ⟨0x00000022#32, 0xFC00003F#32, 0xFFFFF83F#32⟩
  | .subu _ _ _ => ⟨0x00000023#32, 0xFC00003F#32, 0xFFFFF83F#32⟩
  | .and _ _ _ => ⟨0x00000024#32, 0xFC00003F#32, 0xFFFFF83F#32⟩
  | .or _ _ _ => ⟨0x00000025#32, 0xFC00003F#32, 0xFFFFF83F#32⟩
  | .xor _ _ _ => ⟨0x00000026#32, 0xFC00003F#32, 0xFFFFF83F#32⟩
  | .nor _ _ _ => ⟨0x00000027#32, 0xFC00003F#32, 0xFFFFF83F#32⟩
  | .slt _ _ _ => ⟨0x0000002A#32, 0xFC00003F#32, 0xFFFFF83F#32⟩
  | .sltu _ _ _ => ⟨0x0000002B#32, 0xFC00003F#32, 0xFFFFF83F#32⟩
  | .bltz _ _ => ⟨0x04000000#32, 0xFC1F0000#32, 0xFFFFFFFF#32⟩
  | .bgez _ _ => ⟨0x04010000#32, 0xFC1F0000#32, 0xFFFFFFFF#32⟩
  | .bltzal _ _ => ⟨0x04100000#32, 0xFC1F0000#32, 0xFFFFFFFF#32⟩
  | .bgezal _ _ => ⟨0x04110000#32, 0xFC1F0000#32, 0xFFFFFFFF#32⟩
  | .j _ => ⟨0x08000000#32, 0xFC000000#32, 0xFFFFFFFF#32⟩
  | .jal _ => ⟨0x0C000000#32, 0xFC000000#32, 0xFFFFFFFF#32⟩
  | .beq _ _ _ => ⟨0x10000000#32, 0xFC000000#32, 0xFFFFFFFF#32⟩
  | .bne _ _ _ => ⟨0x14000000#32, 0xFC000000#32, 0xFFFFFFFF#32⟩
  | .blez _ _ => ⟨0x18000000#32, 0xFC000000#32, 0xFFE0FFFF#32⟩
  | .bgtz _ _ => ⟨0x1C000000#32, 0xFC000000#32, 0xFFE0FFFF#32⟩
  | .addi _ _ _ => ⟨0x20000000#32, 0xFC000000#32, 0xFFFFFFFF#32⟩
  | .addiu _ _ _ => ⟨0x24000000#32, 0xFC000000#32, 0xFFFFFFFF#32⟩
  | .slti _ _ _ => ⟨0x28000000#32, 0xFC000000#32, 0xFFFFFFFF#32⟩
  | .sltiu _ _ _ => ⟨0x2C000000#32, 0xFC000000#32, 0xFFFFFFFF#32⟩
  | .andi _ _ _ => ⟨0x30000000#32, 0xFC000000#32, 0xFFFFFFFF#32⟩
  | .ori _ _ _ => ⟨0x34000000#32, 0xFC000000#32, 0xFFFFFFFF#32⟩
  | .xori _ _ _ => ⟨0x38000000#32, 0xFC000000#32, 0xFFFFFFFF#32⟩
  | .lui _ _ => ⟨0x3C000000#32, 0xFC000000#32, 0xFC1FFFFF#32⟩
  | .lb _ _ _ => ⟨0x80000000#32, 0xFC000000#32, 0xFFFFFFFF#32⟩
  | .lh _ _ _ => ⟨0x84000000#32, 0xFC000000#32, 0xFFFFFFFF#32⟩
  | .lwl _ _ _ => ⟨0x88000000#32, 0xFC000000#32, 0xFFFFFFFF#32⟩
  | .lw _ _ _ => ⟨0x8C000000#32, 0xFC000000#32, 0xFFFFFFFF#32⟩
  | .lbu _ _ _ => ⟨0x90000000#32, 0xFC000000#32, 0xFFFFFFFF#32⟩
  | .lhu _ _ _ => ⟨0x94000000#32, 0xFC000000#32, 0xFFFFFFFF#32⟩
  | .lwr _ _ _ => ⟨0x98000000#32, 0xFC000000#32, 0xFFFFFFFF#32⟩
  | .sb _ _ _ => ⟨0xA0000000#32, 0xFC000000#32, 0xFFFFFFFF#32⟩
  | .sh _ _ _ => ⟨0xA4000000#32, 0xFC000000#32, 0xFFFFFFFF#32⟩
  | .swl _ _ _ => ⟨0xA8000000#32, 0xFC000000#32, 0xFFFFFFFF#32⟩
  | .sw _ _ _ => ⟨0xAC000000#32, 0xFC000000#32, 0xFFFFFFFF#32⟩
  | .swr _ _ _ => ⟨0xB8000000#32, 0xFC000000#32, 0xFFFFFFFF#32⟩
  | .mfc0 _ _ => ⟨0x40000000#32, 0xFFE00000#32, 0xFFFFF800#32⟩
  | .cfc0 _ _ => ⟨0x40400000#32, 0xFFE00000#32, 0xFFFFF800#32⟩
  | .mtc0 _ _ => ⟨0x40800000#32, 0xFFE00000#32, 0xFFFFF800#32⟩
  | .ctc0 _ _ => ⟨0x40C00000#32, 0xFFE00000#32, 0xFFFFF800#32⟩
  | .bc0f _ => ⟨0x41000000#32, 0xFFFF0000#32, 0xFFFFFFFF#32⟩
  | .bc0t _ => ⟨0x41010000#32, 0xFFFF0000#32, 0xFFFFFFFF#32⟩
  | .rfe => ⟨0x42000010#32, 0xFE00003F#32, 0xFE00003F#32⟩
  | .cop0 _ => ⟨0x42000000#32, 0xFE000000#32, 0xFFFFFFFF#32⟩
  | .lwc0 _ _ _ => ⟨0xC0000000#32, 0xFC000000#32, 0xFFFFFFFF#32⟩
  | .swc0 _ _ _ => ⟨0xE0000000#32, 0xFC000000#32, 0xFFFFFFFF#32⟩
  | .mfc2 _ _ => ⟨0x48000000#32, 0xFFE00000#32, 0xFFFFF800#32⟩
  | .cfc2 _ _ => ⟨0x48400000#32, 0xFFE00000#32, 0xFFFFF800#32⟩
  | .mtc2 _ _ => ⟨0x48800000#32, 0xFFE00000#32, 0xFFFFF800#32⟩
  | .ctc2 _ _ => ⟨0x48C00000#32, 0xFFE00000#32, 0xFFFFF800#32⟩
  | .bc2f _ => ⟨0x49000000#32, 0xFFFF0000#32, 0xFFFFFFFF#32⟩
  | .bc2t _ => ⟨0x49010000#32, 0xFFFF0000#32, 0xFFFFFFFF#32⟩
  | .cop2 _ => ⟨0x4A000000#32, 0xFE000000#32, 0xFFFFFFFF#32⟩
  | .lwc2 _ _ _ => ⟨0xC8000000#32, 0xFC000000#32, 0xFFFFFFFF#32⟩
  | .swc2 _ _ _ => ⟨0xE8000000#32, 0xFC000000#32, 0xFFFFFFFF#32⟩
  | .cop1 _ => ⟨0x44000000#32, 0xFC000000#32, 0xFFFFFFFF#32⟩
  | .lwc1 _ _ _ => ⟨0xC4000000#32, 0xFC000000#32, 0xFFFFFFFF#32⟩
  | .swc1 _ _ _ => ⟨0xE4000000#32, 0xFC000000#32, 0xFFFFFFFF#32⟩
  | .cop3 _ => ⟨0x4C000000#32, 0xFC000000#32, 0xFFFFFFFF#32⟩
  | .lwc3 _ _ _ => ⟨0xCC000000#32, 0xFC000000#32, 0xFFFFFFFF#32⟩
  | .swc3 _ _ _ => ⟨0xEC000000#32, 0xFC000000#32, 0xFFFFFFFF#32⟩

end Sys2Proof
end

