-- ==== Sys2Proof/Machine/Operands.lean ====
section
/-! DEFINITION. Every operand form of the CORE: immediates, shift amounts, effective addresses and control-transfer
targets (rules R13, R17, R165, R137), and the little-endian assembly of loaded bytes (rule R118). -/

namespace Sys2Proof.Machine

/-- `simm`: the sign-extended immediate (rules R17, R165). -/
def sext16 (imm : BitVec 16) : Word := imm.signExtend 32

/-- `zimm`: the zero-extended immediate (rules R17, R165). -/
def zext16 (imm : BitVec 16) : Word := imm.setWidth 32

/-- `sext_8` of the low byte of a word (rule R13). -/
def sextByte (v : Word) : Word := (v.setWidth 8).signExtend 32

/-- `sext_16` of the low halfword of a word (rule R13). -/
def sextHalf (v : Word) : Word := (v.setWidth 16).signExtend 32

/-- LUI's operand: the immediate in the high half (rules R165, R298). -/
def upperImm (imm : BitVec 16) : Word := imm ++ 0#16

/-- The shift amount of SLLV, SRLV and SRAV: the low five bits (rules R165, R208). -/
def shiftAmount (v : Word) : BitVec 5 := v.extractLsb' 0 5

/-- The effective address `x[rs] + simm` of loads, stores, LWCz and SWCz (rules R310, R137). -/
def State.ea (s : State) (rs : Reg) (imm : BitVec 16) : Word := s.x rs + sext16 imm

/-- The target of a conditional branch at `pc` (rules R165, R260). -/
def branchTarget (pc : Word) (imm : BitVec 16) : Word := pc + 4#32 + (sext16 imm <<< 2)

/-- The target of J and JAL at `pc`: the top four bits of the delay slot's address (rules R165, R270). -/
def jumpTarget (pc : Word) (target : BitVec 26) : Word := (pc + 4#32).extractLsb' 28 4 ++ target ++ 0#2

/-- The link value: the address after the delay slot (rule R261). -/
def linkAddress (pc : Word) : Word := pc + 8#32

/-- The aligned word address `al` of a partial-word access (rule R315). -/
def alignedWord (ea : Word) : Word := ea &&& 0xFFFFFFFC#32

/-- The byte `n = ea[1:0]` of a partial-word access (rule R315). -/
def byteInWord (ea : Word) : Nat := (ea.extractLsb' 0 2).toNat

/-- The value of bytes read from the lowest address up, zero-extended (rules R118, R125). -/
def littleEndian : List Byte → Word
  | [] => 0#32
  | b :: rest => b.setWidth 32 ||| (littleEndian rest <<< 8)

/-- LWL's merge: memory bytes `al .. ea` go to the high end of the register (rule R315). -/
def mergeLeft (old word : Word) (n : Nat) : Word :=
  (old &&& (0x00FFFFFF#32 >>> (8 * n))) ||| (word <<< (8 * (3 - n)))

/-- LWR's merge: memory bytes `ea .. al + 3` go to the low end of the register (rule R319). -/
def mergeRight (old word : Word) (n : Nat) : Word :=
  (old &&& ~~~(0xFFFFFFFF#32 >>> (8 * n))) ||| (word >>> (8 * n))

end Sys2Proof.Machine
end

