-- ==== Sys2Proof/Machine/Bus.lean ====
section
/-! DEFINITION. The memory bus: segment decode, region match, the peripheral router, and the access algorithms MemRead,
MemWrite and FetchWord (spec/20_memory.md). -/

namespace Sys2Proof.Machine

/-! ### Exceptions an access or an instruction can raise -/

/-- The exceptions of rule R411 that this machine raises, with the information each carries (rule R410). Mod, TLBL and
TLBS are never raised (no TLB). -/
inductive Exc where
  | int
  | adEL (badvaddr : Word)
  | adES (badvaddr : Word)
  /-- Bus error on fetch; the faulting address is carried, and stored nowhere (rules R109, R412). -/
  | ibe (addr : Word)
  /-- Bus error on data; the faulting address is carried, and stored nowhere (rules R109, R412). -/
  | dbe (addr : Word)
  | sys
  | bp
  | ri
  | cpU (ce : BitVec 2)
  | ov
  deriving DecidableEq, Repr

/-- Cause.ExcCode (rule R411). -/
def Exc.code : Exc → BitVec 5
  | .int => 0
  | .adEL _ => 4
  | .adES _ => 5
  | .ibe _ => 6
  | .dbe _ => 7
  | .sys => 8
  | .bp => 9
  | .ri => 10
  | .cpU _ => 11
  | .ov => 12

/-- The address BadVaddr takes: only AdEL and AdES write it (rule R412). -/
def Exc.badVaddr : Exc → Option Word
  | .adEL a => some a
  | .adES a => some a
  | .int | .ibe _ | .dbe _ | .sys | .bp | .ri | .cpU _ | .ov => none

/-- The number Cause.CE takes: only CpU writes it (rules R64, R410). -/
def Exc.ce : Exc → Option (BitVec 2)
  | .cpU z => some z
  | .int | .adEL _ | .adES _ | .ibe _ | .dbe _ | .sys | .bp | .ri | .ov => none

/-! ### Translation (rules R101 to R109) -/

/-- The six regions of rule R106. -/
inductive Region where
  | mainMemory
  | scratchPad
  | parallelPort
  | ioWindow
  | bootRom
  | cacheControl
  deriving DecidableEq, Repr

/-- A located byte: `(region, offset)` (rule R108). -/
structure Loc where
  region : Region
  off : Nat
  deriving DecidableEq, Repr

/-- The interval of a region. -/
def regionInterval (c : Config) : Region → Interval
  | .mainMemory => c.mainMemory
  | .scratchPad => c.scratchPad
  | .parallelPort => c.parallelPort
  | .ioWindow => c.ioWindow
  | .bootRom => c.bootRom
  | .cacheControl => c.cacheControl

/-- The storage address of a located byte (log entry 3). -/
def storageAddress (c : Config) (l : Loc) : Nat := (regionInterval c l.region).base + l.off

/-- An I/O-window offset is located only when some device answers it (rule R122). -/
def locateIo (c : Config) (off : Nat) : Option Loc :=
  if c.ioSubranges.any (fun r => r.contains off) then some ⟨.ioWindow, off⟩ else none

/-- Match a physical address against the regions in priority order (rules R105, R108); none is a bus fault (R109). -/
def matchRegion (c : Config) (phys : Nat) : Option Loc :=
  if c.mainMemory.contains phys then some ⟨.mainMemory, phys - c.mainMemory.base⟩
  else if c.scratchPad.contains phys then some ⟨.scratchPad, phys - c.scratchPad.base⟩
  else if c.parallelPort.contains phys then some ⟨.parallelPort, phys - c.parallelPort.base⟩
  else if c.ioWindow.contains phys then locateIo c (phys - c.ioWindow.base)
  else if c.bootRom.contains phys then some ⟨.bootRom, phys - c.bootRom.base⟩
  else none

/-- The four segments of rule R101. -/
inductive Segment where
  | user
  | kernelA
  | kernelB
  | control
  deriving DecidableEq, Repr

/-- The segment of a virtual address, by its top three bits (rule R101). -/
def segmentOf (addr : Word) : Segment :=
  let top := addr.extractLsb' 29 3
  if top = 4#3 then .kernelA
  else if top = 5#3 then .kernelB
  else if top = 6#3 ∨ top = 7#3 then .control
  else .user

/-- Translate a virtual address to its located byte, none for a bus fault (rules R101 to R104, R108, R109, R122). -/
def translate (c : Config) (addr : Word) : Option Loc :=
  match segmentOf addr with
  | .user => matchRegion c addr.toNat
  | .kernelA => matchRegion c (addr - 0x80000000#32).toNat
  | .kernelB => matchRegion c (addr - 0xA0000000#32).toNat
  | .control =>
    if c.cacheControl.contains addr.toNat then some ⟨.cacheControl, addr.toNat - c.cacheControl.base⟩ else none

/-- Translate the `n` bytes from `addr` up, wrapping modulo 2^32; none if any is a bus fault (rules R125, R137). -/
def translateAll (c : Config) (addr : Word) : Nat → Option (List Loc)
  | 0 => some []
  | n + 1 =>
    match translate c addr, translateAll c (addr + 1#32) n with
    | some l, some ls => some (l :: ls)
    | _, _ => none

/-! ### Byte accesses (rules R110 to R115, R121) -/

/-- The peripheral router's answer to `IoRead(off)`: the host's next queued byte, or a free value (rule R121). -/
def State.ioRead (s : State) (off : Nat) : Byte × State :=
  match s.ioAnswers with
  | b :: rest => (b, { s with ioAnswers := rest, ioTrace := .read off b :: s.ioTrace })
  | [] =>
    (Config.ioAnswer s.draws off,
      { s with draws := s.draws + 1, ioTrace := .read off (Config.ioAnswer s.draws off) :: s.ioTrace })

/-- `IoWrite(off, b)`: recorded as an event (rule R121). -/
def State.ioWrite (s : State) (off : Nat) (b : Byte) : State := { s with ioTrace := .write off b :: s.ioTrace }

/-- Put a byte into a storage region. -/
def State.storeByte (s : State) (l : Loc) (b : Byte) : State :=
  { s with mem := Memory.write s.mem (storageAddress s.cfg l) b }

/-- `ReadByte(loc)` (rules R110 to R115). -/
def readByte (l : Loc) (s : State) : Byte × State :=
  match l.region with
  | .ioWindow => s.ioRead l.off
  | .mainMemory | .scratchPad | .parallelPort | .bootRom | .cacheControl =>
    (Memory.byte s.mem (storageAddress s.cfg l), s)

/-- `WriteByte(loc, b)`: the boot ROM accepts and discards it (rules R110 to R115). -/
def writeByte (l : Loc) (b : Byte) (s : State) : State :=
  match l.region with
  | .ioWindow => s.ioWrite l.off b
  | .bootRom => s
  | .mainMemory | .scratchPad | .parallelPort | .cacheControl => s.storeByte l b

/-- Read located bytes in order (rules R125, R131). -/
def readBytes : List Loc → State → List Byte × State
  | [], s => ([], s)
  | l :: ls, s => ((readByte l s).1 :: (readBytes ls (readByte l s).2).1, (readBytes ls (readByte l s).2).2)

/-- Write the bytes of `v`, the least significant first, to located bytes in order (rules R118, R126). -/
def writeBytes : List Loc → Word → State → State
  | [], _, s => s
  | l :: ls, v, s => writeBytes ls (v >>> 8) (writeByte l (v.setWidth 8) s)

/-! ### Access algorithms (rules R125 to R129) -/

/-- The result of an access: a value and the state after it, an exception, or a refusal (rule R15). -/
inductive Access (α : Type) where
  | done (value : α) (s : State)
  | raised (e : Exc)
  | refused (r : Refusal)

/-- Whether an access is a load (or fetch) or a store: AdEL or AdES (rule R120). -/
inductive AccessKind where
  | load
  | store
  deriving DecidableEq, Repr

/-- The address error of an access (rules R117, R120). -/
def addressError : AccessKind → Word → Exc
  | .load, a => .adEL a
  | .store, a => .adES a

/-- The checks on an address before translation, in order: alignment (rule R120), then user mode (rule R117). -/
def addressCheck (k : AccessKind) (addr : Word) (n : Nat) (s : State) : Option Exc :=
  if addr.toNat % n ≠ 0 then some (addressError k addr)
  else if s.userMode && addr.getLsbD 31 then some (addressError k addr)
  else none

/-- `MemRead(addr, n)` (rules R125, R127, R129). -/
def memRead (addr : Word) (n : Nat) (s : State) : Access Word :=
  match addressCheck .load addr n s with
  | some e => .raised e
  | none =>
    if s.isolated then .refused .isolatedCacheLoad
    else
      match translateAll s.cfg addr n with
      | none => .raised (.dbe addr)
      | some locs => .done (littleEndian (readBytes locs s).1) (readBytes locs s).2

/-- A store after its address checks: discarded while SR.IsC = 1, otherwise every byte is translated before any is
written (rules R126, R129). -/
def storeChecked (addr : Word) (n : Nat) (v : Word) (s : State) : Access Unit :=
  if s.isolated then .done () s
  else
    match translateAll s.cfg addr n with
    | none => .raised (.dbe addr)
    | some locs => .done () (writeBytes locs v s)

/-- `MemWrite(addr, n, v)` (rules R126, R127). -/
def memWrite (addr : Word) (n : Nat) (v : Word) (s : State) : Access Unit :=
  match addressCheck .store addr n s with
  | some e => .raised e
  | none => storeChecked addr n v s

/-- `FetchWord(addr)`: the caches play no part, and SR.IsC neither (rules R128, R134). -/
def fetchWord (addr : Word) (s : State) : Access Word :=
  match addressCheck .load addr 4 s with
  | some e => .raised e
  | none =>
    match translateAll s.cfg addr 4 with
    | none => .raised (.ibe addr)
    | some locs => .done (littleEndian (readBytes locs s).1) (readBytes locs s).2

end Sys2Proof.Machine
end

