-- ==== Sys2Proof/Machine/Ops.lean ====
section
/-! DEFINITION. How an instruction ends: retire, exception entry and refusal (rules R52, R404, R410), the return from an
exception (rule R349), the coprocessor usability check (rules R343, R344), and the accesses the meanings share. -/

namespace Sys2Proof.Machine

/-- What a meaning answers. -/
abbrev Result := Host.Outcome State Fault Refusal

/-! ### Exception entry and return -/

/-- The vector SR.BEV selects (rule R415). -/
def State.vector (s : State) : Word := if s.bootVectors then bootVector else generalVector

/-- The restart address: the branch when the instruction at `pc` is in a delay slot (rule R413). -/
def State.restartAddress (s : State) : Word := if s.bd then s.pc - 4#32 else s.pc

/-- `enter(E, info)`: TAKING AN EXCEPTION, what every exception does (rule R410). -/
def State.enter (s : State) (e : Exc) : State :=
  { s with
    cop0 :=
      { s.cop0 with
        badVaddr := e.badVaddr.getD s.cop0.badVaddr
        epc := s.restartAddress
        cause := enterCause s.cop0.cause s.bd e.ce e.code
        sr := pushStatus s.cop0.sr }
    regs := s.regs.tick
    pc := s.vector
    npc := s.vector + 4#32
    bd := false
    lastStep := some (.excepted e.code) }

/-- RFE's effect: the (KU, IE) stack is popped (rule R349). -/
def State.restoreStatus (s : State) : State := { s with cop0 := { s.cop0 with sr := popStatus s.cop0.sr } }

/-- An instruction that raises: the step enters the exception from the state before the instruction (rules R16, R402). -/
def raise (e : Exc) (s : State) : Result := .next (s.enter e)

/-! ### Retire -/

/-- Retire (rule R52): tick, then move the program counters. `isBranch` says whether the instruction was a branch or
jump instruction, `target` is the target `branch(target)` recorded in this step (rule R53). -/
def State.retire (s : State) (isBranch : Bool) (target : Option Word) : State :=
  { s with
    regs := s.regs.tick
    pc := s.npc
    npc := target.getD (s.npc + 4#32)
    bd := isBranch
    lastStep := some .retired }

/-- An instruction that is no branch completes with `s` as its effect. -/
def complete (s : State) : Result := .next (s.retire false none)

/-- A branch or jump instruction completes, taken when it recorded a target (rules R53, R260). -/
def completeBranch (target : Option Word) (s : State) : Result := .next (s.retire true target)

/-- The target a conditional branch records (rule R260). -/
def takenIf (c : Bool) (target : Word) : Option Word := if c then some target else none

/-! ### Accesses -/

/-- Go on after an access that succeeded; an exception is entered from the state before the instruction (rule R402). -/
def afterAccess {α : Type} (a : Access α) (s : State) (go : α → State → Result) : Result :=
  match a with
  | .done v s' => go v s'
  | .raised e => raise e s
  | .refused r => .refused r

/-- A load of `n` bytes into `rt`, delayed, after `f` has extended them (rules R310, R311). -/
def load (n : Nat) (f : Word → Word) (rt rs : Reg) (imm : BitVec 16) (s : State) : Result :=
  afterAccess (memRead (s.ea rs imm) n s) s (fun v s' => complete (s'.setXLate rt (f v)))

/-- A store of the low `n` bytes of `v` (rule R310). -/
def store (n : Nat) (v : Word) (rs : Reg) (imm : BitVec 16) (s : State) : Result :=
  afterAccess (memWrite (s.ea rs imm) n v s) s (fun _ s' => complete s')

/-- A partial-word load: the user-mode check is on the unaligned address, then the whole aligned word is read and merged
with the register's visible value (rules R315, R319, R326). -/
def loadPartial (merge : Word → Word → Nat → Word) (rt rs : Reg) (imm : BitVec 16) (s : State) : Result :=
  let ea := s.ea rs imm
  match addressCheck .load ea 1 s with
  | some e => raise e s
  | none =>
    afterAccess (memRead (alignedWord ea) 4 s) s
      (fun word s' => complete (s'.setXLate rt (merge (s.x rt) word (byteInWord ea))))

/-- A partial-word store of `n` bytes of `v` from `addr` up: the user-mode check is on the unaligned address `ea`, and
only the bytes stored are translated (rules R322, R324). -/
def storePartial (ea addr : Word) (n : Nat) (v : Word) (s : State) : Result :=
  match addressCheck .store ea 1 s with
  | some e => raise e s
  | none => afterAccess (storeChecked addr n v s) s (fun _ s' => complete s')

/-! ### Coprocessor usability -/

/-- Whether coprocessor `z` is usable: COP0 in kernel mode or with CU0, the others with CUz (rules R343, R344). -/
def State.copUsable (s : State) (z : BitVec 2) : Bool :=
  if z = 0#2 then !s.userMode || s.copEnabled 0#2 else s.copEnabled z

/-- Run a coprocessor instruction after its usability check; CpU otherwise (rules R342 to R344). -/
def whenUsable (z : BitVec 2) (s : State) (r : Result) : Result :=
  if s.copUsable z then r else raise (.cpU z) s

/-! ### Free values -/

/-- Draw a free word (rules R68, R69). -/
def State.drawWord (s : State) : Word × State := (Config.freeWord s.draws, { s with draws := s.draws + 1 })

/-! ### The start of a step -/

/-- The level of the lines at this step and the levels still to come (rule R420). -/
def nextLines (lines : BitVec 6) : List (BitVec 6) → BitVec 6 × List (BitVec 6)
  | [] => (lines, [])
  | l :: rest => (l, rest)

/-- `CAUSE[15:10] <- INT_LINES` (rule R420). -/
def State.sampleLines (s : State) : State :=
  { s with
    intLines := (nextLines s.intLines s.lineInputs).1
    lineInputs := (nextLines s.intLines s.lineInputs).2
    cop0 := { s.cop0 with cause := sampleCause s.cop0.cause (nextLines s.intLines s.lineInputs).1 } }

/-- The interrupt condition (rule R421). -/
def State.interruptTaken (s : State) : Bool := s.interruptEnable && s.requestUnmasked

/-! ### Placing an instruction word -/

/-- Lay a byte where a fetch will find it: in storage (the boot ROM too), or as the router's next answer. -/
def placeByte (l : Loc) (b : Byte) (s : State) : State :=
  match l.region with
  | .ioWindow => { s with ioAnswers := b :: s.ioAnswers }
  | .mainMemory | .scratchPad | .parallelPort | .bootRom | .cacheControl => s.storeByte l b

/-- Lay the bytes of `v`, the least significant first, at located bytes; the last is placed first, so that queued
answers come in order. -/
def placeBytes : List Loc → Word → State → State
  | [], _, s => s
  | l :: ls, v, s => placeByte l (v.setWidth 8) (placeBytes ls (v >>> 8) s)

/-- Load an instruction word at `pc`, as the host does (rule R453); where `pc` locates nothing, nothing is placed. -/
def placeWord (w : Word) (s : State) : State :=
  match translateAll s.cfg s.pc 4 with
  | some locs => placeBytes locs w s
  | none => s

end Sys2Proof.Machine
end

