-- ==== Sys2Proof/Machine/Cycle.lean ====
section
/-! DEFINITION. One step of the CORE, given the meanings of the instructions (rule R400): sample the lines, take a pending
interrupt, or fetch, decode and execute. -/

namespace Sys2Proof.Machine

/-- What the step does with a word that is no instruction of the table (rules R173 to R175, R178, R357). -/
def rejectWord (r : Reject) (s : State) : Result :=
  match r with
  | .reservedInstruction => raise .ri s
  | .undecodedBcond => .refused .undecodedBcond
  | .reservedCop0 => whenUsable 0#2 s (raise .ri s)
  | .reservedCop2 => whenUsable 2#2 s (raise .ri s)
  | .undefinedBc0 => whenUsable 0#2 s (.refused .unimplemented)
  | .undefinedBc2 => whenUsable 2#2 s (.refused .unimplemented)

/-- Decode and execute a fetched word (rules R178, R400). -/
def runWord (exec : Instr → State → Result) (w : Word) (s : State) : Result :=
  match decode w with
  | .ok i => exec i s
  | .error r => rejectWord r s

/-- The step after the lines were sampled (rules R400, R421). -/
def afterSample (exec : Instr → State → Result) (s : State) : Result :=
  if s.interruptTaken then raise .int s
  else afterAccess (fetchWord s.pc s) s (runWord exec)

/-- One step (rule R400). -/
def cycle (exec : Instr → State → Result) (s : State) : Result := afterSample exec s.sampleLines

end Sys2Proof.Machine
end

