-- ==== Sys2Proof/Machine/Alu.lean ====
section
/-! DEFINITION. The register ALU instructions of the SPECIAL family: shifts, arithmetic, logic and comparisons
(spec/40_special.md, rules R200, R201, R205 to R210, R223 to R232). Every write is non-delayed (rule R200). -/

namespace Sys2Proof.Machine

/-- An instruction that writes one GPR at once and does nothing else. -/
def writeBack (rd : Reg) (v : Word) (s : State) : Result := complete (s.setX rd v)

/-- A trapping sum or difference: Ov with nothing written, or the result (rule R201). -/
def writeBackOrOverflow (rd : Reg) (r : Option Word) (s : State) : Result :=
  match r with
  | none => raise .ov s
  | some v => writeBack rd v s

/-- SLL (rule R205). -/
def execSll (rd rt : Reg) (shamt : BitVec 5) (s : State) : Result := writeBack rd (s.x rt <<< shamt.toNat) s

/-- SRL (rule R206). -/
def execSrl (rd rt : Reg) (shamt : BitVec 5) (s : State) : Result := writeBack rd (s.x rt >>> shamt.toNat) s

/-- SRA (rule R207). -/
def execSra (rd rt : Reg) (shamt : BitVec 5) (s : State) : Result :=
  writeBack rd ((s.x rt).sshiftRight shamt.toNat) s

/-- SLLV (rule R208). -/
def execSllv (rd rt rs : Reg) (s : State) : Result := writeBack rd (s.x rt <<< (shiftAmount (s.x rs)).toNat) s

/-- SRLV (rule R209). -/
def execSrlv (rd rt rs : Reg) (s : State) : Result := writeBack rd (s.x rt >>> (shiftAmount (s.x rs)).toNat) s

/-- SRAV (rule R210). -/
def execSrav (rd rt rs : Reg) (s : State) : Result :=
  writeBack rd ((s.x rt).sshiftRight (shiftAmount (s.x rs)).toNat) s

/-- ADD (rules R201, R223). -/
def execAdd (rd rs rt : Reg) (s : State) : Result := writeBackOrOverflow rd (addSigned (s.x rs) (s.x rt)) s

/-- ADDU (rule R224). -/
def execAddu (rd rs rt : Reg) (s : State) : Result := writeBack rd (s.x rs + s.x rt) s

/-- SUB (rules R201, R225). -/
def execSub (rd rs rt : Reg) (s : State) : Result := writeBackOrOverflow rd (subSigned (s.x rs) (s.x rt)) s

/-- SUBU (rule R226). -/
def execSubu (rd rs rt : Reg) (s : State) : Result := writeBack rd (s.x rs - s.x rt) s

/-- AND (rule R227). -/
def execAnd (rd rs rt : Reg) (s : State) : Result := writeBack rd (s.x rs &&& s.x rt) s

/-- OR (rule R228). -/
def execOr (rd rs rt : Reg) (s : State) : Result := writeBack rd (s.x rs ||| s.x rt) s

/-- XOR (rule R229). -/
def execXor (rd rs rt : Reg) (s : State) : Result := writeBack rd (s.x rs ^^^ s.x rt) s

/-- NOR (rule R230). -/
def execNor (rd rs rt : Reg) (s : State) : Result := writeBack rd (~~~(s.x rs ||| s.x rt)) s

/-- SLT (rule R231). -/
def execSlt (rd rs rt : Reg) (s : State) : Result := writeBack rd (truth (lessSigned (s.x rs) (s.x rt))) s

/-- SLTU (rule R232). -/
def execSltu (rd rs rt : Reg) (s : State) : Result := writeBack rd (truth (lessUnsigned (s.x rs) (s.x rt))) s

end Sys2Proof.Machine
end

