-- ==== Sys2Proof/Machine/Control.lean ====
section
/-! DEFINITION. Branches, jumps and the software traps (spec/41_branch_jump.md; rules R211 to R214 of
spec/40_special.md). Each control transfer records its target; retire makes it run after the delay slot (R53). -/

namespace Sys2Proof.Machine

/-- A conditional branch (rule R260). -/
def branchWhen (c : Bool) (imm : BitVec 16) (s : State) : Result :=
  completeBranch (takenIf c (branchTarget s.pc imm)) s

/-- A conditional branch that links, taken or not; the condition `c` was read before the link (rule R261). -/
def branchAndLinkWhen (c : Bool) (imm : BitVec 16) (s : State) : Result :=
  completeBranch (takenIf c (branchTarget s.pc imm)) (s.setX 31#5 (linkAddress s.pc))

/-- JR (rule R211). -/
def execJr (rs : Reg) (s : State) : Result := completeBranch (some (s.x rs)) s

/-- JALR: the target is read before the link is written (rule R212). -/
def execJalr (rd rs : Reg) (s : State) : Result := completeBranch (some (s.x rs)) (s.setX rd (linkAddress s.pc))

/-- SYSCALL; the code is not used by the hardware (rule R213). -/
def execSyscall (_code : BitVec 20) (s : State) : Result := raise .sys s

/-- BREAK; the code is not used by the hardware (rule R214). -/
def execBreak (_code : BitVec 20) (s : State) : Result := raise .bp s

/-- BLTZ (rule R262). -/
def execBltz (rs : Reg) (imm : BitVec 16) (s : State) : Result := branchWhen (decide ((s.x rs).toInt < 0)) imm s

/-- BGEZ (rule R263). -/
def execBgez (rs : Reg) (imm : BitVec 16) (s : State) : Result := branchWhen (decide (0 ≤ (s.x rs).toInt)) imm s

/-- BLTZAL (rule R264). -/
def execBltzal (rs : Reg) (imm : BitVec 16) (s : State) : Result :=
  branchAndLinkWhen (decide ((s.x rs).toInt < 0)) imm s

/-- BGEZAL (rule R265). -/
def execBgezal (rs : Reg) (imm : BitVec 16) (s : State) : Result :=
  branchAndLinkWhen (decide (0 ≤ (s.x rs).toInt)) imm s

/-- J (rule R270). -/
def execJ (target : BitVec 26) (s : State) : Result := completeBranch (some (jumpTarget s.pc target)) s

/-- JAL (rule R271). -/
def execJal (target : BitVec 26) (s : State) : Result :=
  completeBranch (some (jumpTarget s.pc target)) (s.setX 31#5 (linkAddress s.pc))

/-- BEQ (rule R266). -/
def execBeq (rs rt : Reg) (imm : BitVec 16) (s : State) : Result := branchWhen (s.x rs == s.x rt) imm s

/-- BNE (rule R267). -/
def execBne (rs rt : Reg) (imm : BitVec 16) (s : State) : Result := branchWhen (s.x rs != s.x rt) imm s

/-- BLEZ (rule R268). -/
def execBlez (rs : Reg) (imm : BitVec 16) (s : State) : Result := branchWhen (decide ((s.x rs).toInt ≤ 0)) imm s

/-- BGTZ (rule R269). -/
def execBgtz (rs : Reg) (imm : BitVec 16) (s : State) : Result := branchWhen (decide (0 < (s.x rs).toInt)) imm s

end Sys2Proof.Machine
end

