-- ==== Sys2Proof/Machine/Cop0Ops.lean ====
section
/-! DEFINITION. The system-control coprocessor's instructions (spec/44_coprocessor.md, rules R345 to R350, R357; the
registers' rules R60 to R69 of spec/10_state.md). -/

namespace Sys2Proof.Machine

/-- The COP0 data registers by name (rule R60). -/
inductive Cop0Reg where
  | bpc
  | bda
  | jumpDest
  | dcic
  | badVaddr
  | bdam
  | bpcm
  | sr
  | cause
  | epc
  | prid
  /-- Registers 0, 1, 2, 4, 10 and 16 to 31. -/
  | absent
  deriving DecidableEq, Repr

/-- The register a COP0 register number names (rule R60). -/
def cop0RegOf (r : Reg) : Cop0Reg :=
  match r with
  | 3#5 => .bpc
  | 5#5 => .bda
  | 6#5 => .jumpDest
  | 7#5 => .dcic
  | 8#5 => .badVaddr
  | 9#5 => .bdam
  | 11#5 => .bpcm
  | 12#5 => .sr
  | 13#5 => .cause
  | 14#5 => .epc
  | 15#5 => .prid
  | _ => .absent

/-- The value a COP0 register holds; none for JUMPDEST and the absent registers, whose value is unspecified (rules R61 to
R69). -/
def cop0Value (r : Reg) (c : Cop0) : Option Word :=
  match cop0RegOf r with
  | .bpc => some c.bpc
  | .bda => some c.bda
  | .dcic => some c.dcic
  | .badVaddr => some c.badVaddr
  | .bdam => some c.bdam
  | .bpcm => some c.bpcm
  | .sr => some c.sr
  | .cause => some c.cause
  | .epc => some c.epc
  | .prid => some pridValue
  | .jumpDest | .absent => none

/-- The value MFC0 reads, and the state after the read: a register that holds no value is a fresh draw at every read
(rules R68, R69, R345). -/
def cop0Read (r : Reg) (s : State) : Word × State :=
  match cop0Value r s.cop0 with
  | some v => (v, s)
  | none => s.drawWord

/-- The COP0 registers after MTC0 of `v`: SR and CAUSE through their masks, the read-only and absent registers ignore the
write (rules R62, R64 to R69, R346). DCIC is written only with 0; `execMtc0` refuses any other value. -/
def cop0Write (r : Reg) (v : Word) (c : Cop0) : Cop0 :=
  match cop0RegOf r with
  | .bpc => { c with bpc := v }
  | .bda => { c with bda := v }
  | .dcic => { c with dcic := v }
  | .bdam => { c with bdam := v }
  | .bpcm => { c with bpcm := v }
  | .sr => { c with sr := v &&& srWriteMask }
  | .cause => { c with cause := writeCause c.cause v }
  | .jumpDest | .badVaddr | .epc | .prid | .absent => c

/-- MFC0: the GPR is written delayed (rule R345). -/
def execMfc0 (rt rd : Reg) (s : State) : Result :=
  whenUsable 0#2 s (complete ((cop0Read rd s).2.setXLate rt (cop0Read rd s).1))

/-- CFC0: COP0 has no control registers (rule R347). -/
def execCfc0 (_rt _rd : Reg) (s : State) : Result := whenUsable 0#2 s (.refused .unimplemented)

/-- MTC0: the COP0 register is written at once; a non-zero value to DCIC is refused (rules R68, R346). -/
def execMtc0 (rt rd : Reg) (s : State) : Result :=
  whenUsable 0#2 s
    (if cop0RegOf rd = .dcic ∧ s.x rt ≠ 0#32 then .refused .debugNotModelled
     else complete { s with cop0 := cop0Write rd (s.x rt) s.cop0 })

/-- CTC0: COP0 has no control registers (rule R347). -/
def execCtc0 (_rt _rd : Reg) (s : State) : Result := whenUsable 0#2 s (.refused .unimplemented)

/-- BC0F: the condition is not defined (rule R357). -/
def execBc0f (_imm : BitVec 16) (s : State) : Result := whenUsable 0#2 s (.refused .unimplemented)

/-- BC0T: the condition is not defined (rule R357). -/
def execBc0t (_imm : BitVec 16) (s : State) : Result := whenUsable 0#2 s (.refused .unimplemented)

/-- RFE: the return from an exception (rule R349). -/
def execRfe (s : State) : Result := whenUsable 0#2 s (complete s.restoreStatus)

/-- A COP0 function other than RFE (rule R350). -/
def execCop0 (_cofun : BitVec 25) (s : State) : Result := whenUsable 0#2 s (.refused .unimplemented)

/-- LWC0 (rule R348). -/
def execLwc0 (_rt _rs : Reg) (_imm : BitVec 16) (s : State) : Result := whenUsable 0#2 s (.refused .unimplemented)

/-- SWC0 (rule R348). -/
def execSwc0 (_rt _rs : Reg) (_imm : BitVec 16) (s : State) : Result := whenUsable 0#2 s (.refused .unimplemented)

end Sys2Proof.Machine
end

