-- ==== Sys2Proof/Machine/Cop2Ops.lean ====
section
/-! DEFINITION. The geometry coprocessor's instructions (spec/44_coprocessor.md, rules R351 to R358) and the absent
coprocessors 1 and 3 (rule R344). -/

namespace Sys2Proof.Machine

/-- MFC2: the GPR is written delayed (rule R351). -/
def execMfc2 (rt rd : Reg) (s : State) : Result :=
  whenUsable 2#2 s (complete (s.setXLate rt s.cop2d[rd.toNat]))

/-- CFC2: the GPR is written delayed (rule R352). -/
def execCfc2 (rt rd : Reg) (s : State) : Result :=
  whenUsable 2#2 s (complete (s.setXLate rt s.cop2c[rd.toNat]))

/-- MTC2: the coprocessor register is written at once (rule R353). -/
def execMtc2 (rt rd : Reg) (s : State) : Result :=
  whenUsable 2#2 s (complete { s with cop2d := s.cop2d.set rd.toNat (s.x rt) })

/-- CTC2: the coprocessor register is written at once (rule R354). -/
def execCtc2 (rt rd : Reg) (s : State) : Result :=
  whenUsable 2#2 s (complete { s with cop2c := s.cop2c.set rd.toNat (s.x rt) })

/-- BC2F: the condition is not defined (rule R357). -/
def execBc2f (_imm : BitVec 16) (s : State) : Result := whenUsable 2#2 s (.refused .unimplemented)

/-- BC2T: the condition is not defined (rule R357). -/
def execBc2t (_imm : BitVec 16) (s : State) : Result := whenUsable 2#2 s (.refused .unimplemented)

/-- A GTE command: the single `Unimplemented` stub (rules R6, R358). -/
def execCop2 (_cofun : BitVec 25) (s : State) : Result := whenUsable 2#2 s (.refused .unimplemented)

/-- LWC2: the coprocessor register is written at once (rule R355). -/
def execLwc2 (rt rs : Reg) (imm : BitVec 16) (s : State) : Result :=
  whenUsable 2#2 s
    (afterAccess (memRead (s.ea rs imm) 4 s) s
      (fun v s' => complete { s' with cop2d := s'.cop2d.set rt.toNat v }))

/-- SWC2 (rule R356). -/
def execSwc2 (rt rs : Reg) (imm : BitVec 16) (s : State) : Result :=
  whenUsable 2#2 s (store 4 s.cop2d[rt.toNat] rs imm s)

/-- Any COP1 word (rule R344). -/
def execCop1 (_body : BitVec 26) (s : State) : Result := whenUsable 1#2 s (.refused .noCoprocessor)

/-- LWC1 (rule R344). -/
def execLwc1 (_rt _rs : Reg) (_imm : BitVec 16) (s : State) : Result := whenUsable 1#2 s (.refused .noCoprocessor)

/-- SWC1 (rule R344). -/
def execSwc1 (_rt _rs : Reg) (_imm : BitVec 16) (s : State) : Result := whenUsable 1#2 s (.refused .noCoprocessor)

/-- Any COP3 word (rule R344). -/
def execCop3 (_body : BitVec 26) (s : State) : Result := whenUsable 3#2 s (.refused .noCoprocessor)

/-- LWC3 (rule R344). -/
def execLwc3 (_rt _rs : Reg) (_imm : BitVec 16) (s : State) : Result := whenUsable 3#2 s (.refused .noCoprocessor)

/-- SWC3 (rule R344). -/
def execSwc3 (_rt _rs : Reg) (_imm : BitVec 16) (s : State) : Result := whenUsable 3#2 s (.refused .noCoprocessor)

end Sys2Proof.Machine
end

