-- ==== Sys2Proof/Machine/Immediate.lean ====
section
/-! DEFINITION. The immediate ALU family (spec/42_immediate_alu.md, rules R290 to R299). -/

namespace Sys2Proof.Machine

/-- ADDI (rule R291). -/
def execAddi (rt rs : Reg) (imm : BitVec 16) (s : State) : Result :=
  writeBackOrOverflow rt (addSigned (s.x rs) (sext16 imm)) s

/-- ADDIU (rule R292). -/
def execAddiu (rt rs : Reg) (imm : BitVec 16) (s : State) : Result := writeBack rt (s.x rs + sext16 imm) s

/-- SLTI (rule R293). -/
def execSlti (rt rs : Reg) (imm : BitVec 16) (s : State) : Result :=
  writeBack rt (truth (lessSigned (s.x rs) (sext16 imm))) s

/-- SLTIU: the sign-extended immediate, compared unsigned (rule R294). -/
def execSltiu (rt rs : Reg) (imm : BitVec 16) (s : State) : Result :=
  writeBack rt (truth (lessUnsigned (s.x rs) (sext16 imm))) s

/-- ANDI (rule R295). -/
def execAndi (rt rs : Reg) (imm : BitVec 16) (s : State) : Result := writeBack rt (s.x rs &&& zext16 imm) s

/-- ORI (rule R296). -/
def execOri (rt rs : Reg) (imm : BitVec 16) (s : State) : Result := writeBack rt (s.x rs ||| zext16 imm) s

/-- XORI (rule R297). -/
def execXori (rt rs : Reg) (imm : BitVec 16) (s : State) : Result := writeBack rt (s.x rs ^^^ zext16 imm) s

/-- LUI (rule R298). -/
def execLui (rt : Reg) (imm : BitVec 16) (s : State) : Result := writeBack rt (upperImm imm) s

end Sys2Proof.Machine
end

