-- ==== Sys2Proof/Machine/LoadStore.lean ====
section
/-! DEFINITION. The memory access family (spec/43_load_store.md, rules R310 to R328). -/

namespace Sys2Proof.Machine

/-- LB (rule R313). -/
def execLb (rt rs : Reg) (imm : BitVec 16) (s : State) : Result := load 1 sextByte rt rs imm s

/-- LH (rule R314). -/
def execLh (rt rs : Reg) (imm : BitVec 16) (s : State) : Result := load 2 sextHalf rt rs imm s

/-- LWL (rule R315). -/
def execLwl (rt rs : Reg) (imm : BitVec 16) (s : State) : Result := loadPartial mergeLeft rt rs imm s

/-- LW (rule R316). -/
def execLw (rt rs : Reg) (imm : BitVec 16) (s : State) : Result := load 4 id rt rs imm s

/-- LBU: MemRead's value is already zero-extended (rules R125, R317). -/
def execLbu (rt rs : Reg) (imm : BitVec 16) (s : State) : Result := load 1 id rt rs imm s

/-- LHU: MemRead's value is already zero-extended (rules R125, R318). -/
def execLhu (rt rs : Reg) (imm : BitVec 16) (s : State) : Result := load 2 id rt rs imm s

/-- LWR (rule R319). -/
def execLwr (rt rs : Reg) (imm : BitVec 16) (s : State) : Result := loadPartial mergeRight rt rs imm s

/-- SB (rule R320). -/
def execSb (rt rs : Reg) (imm : BitVec 16) (s : State) : Result := store 1 (s.x rt) rs imm s

/-- SH (rule R321). -/
def execSh (rt rs : Reg) (imm : BitVec 16) (s : State) : Result := store 2 (s.x rt) rs imm s

/-- SWL: the high `n + 1` bytes of `rt` go to `al .. ea` (rule R322). -/
def execSwl (rt rs : Reg) (imm : BitVec 16) (s : State) : Result :=
  let ea := s.ea rs imm
  storePartial ea (alignedWord ea) (byteInWord ea + 1) (s.x rt >>> (8 * (3 - byteInWord ea))) s

/-- SW (rule R323). -/
def execSw (rt rs : Reg) (imm : BitVec 16) (s : State) : Result := store 4 (s.x rt) rs imm s

/-- SWR: the low `4 - n` bytes of `rt` go to `ea .. al + 3` (rule R324). -/
def execSwr (rt rs : Reg) (imm : BitVec 16) (s : State) : Result :=
  let ea := s.ea rs imm
  storePartial ea ea (4 - byteInWord ea) (s.x rt) s

end Sys2Proof.Machine
end

