-- ==== Sys2Proof/Machine/MulDiv.lean ====
section
/-! DEFINITION. Multiply, divide and the HI/LO moves (spec/40_special.md, rules R202, R203, R215 to R222). Writes to HI
and LO are immediate (rule R56; `HILO_HAZARD_MODE = sequential`, rule R463). -/

namespace Sys2Proof.Machine

/-- Write a 64-bit product: its high half to HI, its low half to LO (rule R202). -/
def writeProduct (p : BitVec 64) (s : State) : Result :=
  complete (s.setHiLo (p.extractLsb' 32 32) (p.extractLsb' 0 32))

/-- The quotient DIV writes to LO (rules R203, R221). -/
def quotientSigned (n d : Word) : Word :=
  if d = 0#32 then (if 0 ≤ n.toInt then 0xFFFFFFFF#32 else 0x00000001#32)
  else if n = 0x80000000#32 ∧ d = 0xFFFFFFFF#32 then 0x80000000#32
  else BitVec.ofInt 32 (Int.tdiv n.toInt d.toInt)

/-- The remainder DIV writes to HI (rules R203, R221). -/
def remainderSigned (n d : Word) : Word :=
  if d = 0#32 then n
  else if n = 0x80000000#32 ∧ d = 0xFFFFFFFF#32 then 0x00000000#32
  else BitVec.ofInt 32 (n.toInt - Int.tdiv n.toInt d.toInt * d.toInt)

/-- The quotient DIVU writes to LO (rules R203, R222). -/
def quotientUnsigned (n d : Word) : Word :=
  if d = 0#32 then 0xFFFFFFFF#32 else BitVec.ofNat 32 (n.toNat / d.toNat)

/-- The remainder DIVU writes to HI (rules R203, R222). -/
def remainderUnsigned (n d : Word) : Word :=
  if d = 0#32 then n else BitVec.ofNat 32 (n.toNat % d.toNat)

/-- MFHI (rule R215). -/
def execMfhi (rd : Reg) (s : State) : Result := writeBack rd s.hi s

/-- MTHI (rule R216). -/
def execMthi (rs : Reg) (s : State) : Result := complete (s.setHiLo (s.x rs) s.lo)

/-- MFLO (rule R217). -/
def execMflo (rd : Reg) (s : State) : Result := writeBack rd s.lo s

/-- MTLO (rule R218). -/
def execMtlo (rs : Reg) (s : State) : Result := complete (s.setHiLo s.hi (s.x rs))

/-- MULT (rules R202, R219). -/
def execMult (rs rt : Reg) (s : State) : Result :=
  writeProduct (BitVec.ofInt 64 ((s.x rs).toInt * (s.x rt).toInt)) s

/-- MULTU (rules R202, R220). -/
def execMultu (rs rt : Reg) (s : State) : Result :=
  writeProduct (BitVec.ofNat 64 ((s.x rs).toNat * (s.x rt).toNat)) s

/-- DIV (rules R203, R221). -/
def execDiv (rs rt : Reg) (s : State) : Result :=
  complete (s.setHiLo (remainderSigned (s.x rs) (s.x rt)) (quotientSigned (s.x rs) (s.x rt)))

/-- DIVU (rules R203, R222). -/
def execDivu (rs rt : Reg) (s : State) : Result :=
  complete (s.setHiLo (remainderUnsigned (s.x rs) (s.x rt)) (quotientUnsigned (s.x rs) (s.x rt)))

end Sys2Proof.Machine
end

