-- ==== Sys2Proof/Machine/Step.lean ====
section
/-! DEFINITION. The step function (rule R400) and the placing of the next instruction. Both only call definitions of
Machine/Cycle.lean and Machine/Ops.lean. -/

namespace Sys2Proof.Machine

/-- One instruction or one exception (rule R400). -/
def step (s : State) : Host.Outcome State Fault Refusal := cycle exec s

/-- `s` with the instruction whose bits are the low `nbits` bits of `w` loaded at `pc`, where the next step fetches it
(rule R453, log entry 6). -/
def State.withFetchWord (s : State) (nbits w : Nat) : State := placeWord (BitVec.ofNat 32 (w % 2 ^ nbits)) s

end Sys2Proof.Machine
end

