-- ==== Sys2Proof/Machine/HostOps.lean ====
section
/-! DEFINITION. What the host can do to the CORE between steps (rule R471): reset, drive the lines, answer the router,
load storage, probe, save and restore, and end a run; and the report of a step (rules R401, R404). -/

namespace Sys2Proof.Machine

/-! ### Reset (rule R450) -/

/-- The draws of a reset: a value for everything rule R450 leaves unspecified. -/
structure ResetDraws where
  hi : Word
  lo : Word
  sr : Word
  cause : Word
  epc : Word
  badVaddr : Word
  bpc : Word
  bda : Word
  bdam : Word
  bpcm : Word
  dcic : Word
  cop2d : Vector Word 32
  cop2c : Vector Word 32
  deriving DecidableEq, Repr

/-- SR at reset: BEV = 1, KUc = 0, IEc = 0, the read-0 bits 0, the others drawn (rules R61, R450). -/
def resetStatus (draw : Word) : Word := (draw &&& srWriteMask &&& 0xFFFFFFFC#32) ||| srBevMask

/-- CAUSE at reset: ExcCode, IP[1:0], CE and BD drawn, every other bit 0 until the lines are sampled (rules R63, R450). -/
def resetCause (draw : Word) : Word := draw &&& 0xB000037C#32

/-- `reset()`: a host operation before the first step; the configuration is checked, the storage regions, the peripheral
state and the lines are left alone (rules R450, R451, R136). -/
def applyReset (d : ResetDraws) (s : State) : Result :=
  if s.cfg.valid then
    .next
      { s with
        regs := ⟨Vector.replicate 32 0#32, Vector.replicate 32 0#32, Vector.replicate 32 0#32⟩
        pc := resetVector
        npc := resetVector + 4#32
        bd := false
        hi := d.hi
        lo := d.lo
        cop0 :=
          { bpc := d.bpc, bda := d.bda, dcic := d.dcic, badVaddr := d.badVaddr, bdam := d.bdam, bpcm := d.bpcm
            sr := resetStatus d.sr, cause := resetCause d.cause, epc := d.epc }
        cop2d := d.cop2d
        cop2c := d.cop2c
        lastStep := none }
  else .refused .badConfiguration

/-! ### Inputs (rules R420, R121, R136) -/

/-- Drive the interrupt lines at the coming steps, in order (rule R420). -/
def driveLines (levels : List (BitVec 6)) (s : State) : State := { s with lineInputs := s.lineInputs ++ levels }

/-- Queue answers of the peripheral router (rule R121). -/
def answerReads (bytes : List Byte) (s : State) : State := { s with ioAnswers := s.ioAnswers ++ bytes }

/-- Load bytes into storage from an address up, the boot ROM image among them (rules R136, R453). -/
def loadStorage (l : Loc) : List Byte → State → State
  | [], s => s
  | b :: rest, s => loadStorage { l with off := l.off + 1 } rest (s.storeByte l b)

/-! ### Probe (rule R130) -/

/-- `Probe(addr)`: the stored byte with no check and no side effect, or none for `Unsupported`. -/
def probe (addr : Word) (s : State) : Option Byte :=
  match translate s.cfg addr with
  | none => none
  | some l =>
    match l.region with
    | .ioWindow => none
    | .mainMemory | .scratchPad | .parallelPort | .bootRom | .cacheControl =>
      some (Memory.byte s.mem (storageAddress s.cfg l))

/-! ### Snapshot (rules R90 to R92, R360) -/

/-- COP0's full register bank, `cop0[0..31]` in number order (rules R91, R360): the value each register holds, PRId's
constant, and for JUMPDEST and the absent registers, whose value is unspecified, the word of `draws` at its number (rules
R67 to R69, log entry 10). -/
def cop0Save (draws : Vector Word 32) (c : Cop0) : Vector Word 32 :=
  Vector.ofFn fun k => (cop0Value (BitVec.ofNat 5 k) c).getD draws[k]

/-- The COP0 registers from a saved bank. The words of PRId, JUMPDEST and the absent registers have no storage to go to
(rules R67 to R69, log entry 10). -/
def cop0Load (bank : Vector Word 32) : Cop0 where
  bpc := bank[3]
  bda := bank[5]
  dcic := bank[7]
  badVaddr := bank[8]
  bdam := bank[9]
  bpcm := bank[11]
  sr := bank[12]
  cause := bank[13]
  epc := bank[14]

/-- The content of a snapshot, in the order of rule R90. -/
structure Snapshot where
  /-- `stage1[0..31]`, `stage2[0..31]`, `stage3[0..31]`. -/
  regs : RegFile
  pc : Word
  npc : Word
  bd : Bool
  hi : Word
  lo : Word
  /-- COP0 data registers 0 to 31. -/
  cop0 : Vector Word 32
  /-- COP2 data registers 0 to 31. -/
  cop2d : Vector Word 32
  /-- COP2 control registers 0 to 31. -/
  cop2c : Vector Word 32
  deriving DecidableEq, Repr

/-- `save_state` (rule R90), for every draw of the COP0 words that are unspecified. -/
def saveState (draws : Vector Word 32) (s : State) : Snapshot :=
  ⟨s.regs, s.pc, s.npc, s.bd, s.hi, s.lo, cop0Save draws s.cop0, s.cop2d, s.cop2c⟩

/-- `load_state`: memory, peripheral state and the lines are not part of a snapshot (rules R90, R92). -/
def loadState (t : Snapshot) (s : State) : State :=
  { s with
    regs := t.regs, pc := t.pc, npc := t.npc, bd := t.bd, hi := t.hi, lo := t.lo
    cop0 := cop0Load t.cop0, cop2d := t.cop2d, cop2c := t.cop2c }

/-! ### The report of a step (rules R401, R404) -/

/-- The outcomes of rule R401. -/
inductive StepReport where
  | retired
  | excepted (code : BitVec 5)
  /-- The reason, the pc, and the word where one was fetched. -/
  | refused (reason : Refusal) (pc : Word) (word : Option Word)
  deriving DecidableEq, Repr

/-- The word a step fetches, where the fetch succeeds (rules R128, R404). -/
def fetchedWord (s : State) : Option Word :=
  match fetchWord s.pc s.sampleLines with
  | .done w _ => some w
  | .raised _ => none
  | .refused _ => none

/-- The report of a step's outcome from `s`, none for a fault (no step answers one). -/
def reportOf (s : State) : Result → Option StepReport
  | .next t =>
    match t.lastStep with
    | some (.excepted c) => some (.excepted c)
    | some .retired => some .retired
    | none => none
  | .refused r => some (.refused r s.pc (fetchedWord s))
  | .fault _ => none

/-! ### End of a run (rules R444, R470) -/

/-- How a run ended. -/
inductive RunEnd where
  /-- `pc` reached an address of `END_OF_RUN` at a step boundary. -/
  | atEnd (s : State)
  /-- The host stopped stepping. -/
  | stopped (s : State)
  /-- A step was refused. -/
  | refused (r : Refusal) (s : State)
  | faulted (r : Fault)
  deriving DecidableEq, Repr

/-- Run at most `fuel` steps, to the first boundary at which `pc` is one of `ends` (rule R470). -/
def runTo (ends : List Word) : Nat → State → RunEnd
  | fuel, s =>
    if ends.contains s.pc then .atEnd s
    else
      match fuel with
      | 0 => .stopped s
      | n + 1 =>
        match step s with
        | .next t => runTo ends n t
        | .refused r => .refused r s
        | .fault r => .faulted r

end Sys2Proof.Machine
end

