-- ==== Sys2Proof/Safety.lean ====
section
/-! DEFINITION. The terms the statements use: what a step leaves unchanged, what retiring and taking an exception look
like field by field, where a store goes, and the invariant every step keeps. They are written from the rules, not from
the operations of Machine/. -/

namespace Sys2Proof.Machine

/-! ### Frames -/

/-- HI and LO are unchanged. -/
def AccKept (s t : State) : Prop := t.hi = s.hi ∧ t.lo = s.lo

/-- Every COP0 register is unchanged. -/
def Cop0Kept (s t : State) : Prop := t.cop0 = s.cop0

/-- Every COP2 data and control register is unchanged. -/
def Cop2Kept (s t : State) : Prop := t.cop2d = s.cop2d ∧ t.cop2c = s.cop2c

/-- Every byte of storage outside `stored` reads as before. -/
def MemKeptBut (s t : State) (stored : Nat → Prop) : Prop :=
  ∀ a, ¬ stored a → Memory.byte t.mem a = Memory.byte s.mem a

/-- Every byte of storage reads as before. -/
def MemKept (s t : State) : Prop := MemKeptBut s t (fun _ => False)

/-- The peripheral router was not called. -/
def IoKept (s t : State) : Prop := t.ioAnswers = s.ioAnswers ∧ t.ioTrace = s.ioTrace

/-- The configuration, the interrupt lines and the levels still to come are unchanged. -/
def PlatformKept (s t : State) : Prop :=
  t.cfg = s.cfg ∧ t.intLines = s.intLines ∧ t.lineInputs = s.lineInputs

/-- Nothing outside the CORE's registers changed: storage, router, platform, and no free value was drawn. -/
def OutsideKept (s t : State) : Prop := MemKept s t ∧ IoKept s t ∧ PlatformKept s t ∧ t.draws = s.draws

/-! ### Registers over a step -/

/-- A write of `v` to register `rd`, which register 0 discards (rule R46). -/
def oneReg (rd : Reg) (v : Word) : Reg → Option Word := fun r => if r = rd ∧ r ≠ 0#5 then some v else none

/-- No write. -/
def noReg : Reg → Option Word := fun _ => none

/-- The register file after a step that made the non-delayed writes `now` and the delayed writes `late` and then ticked
(rules R42 to R44): what each register shows, and what is pending for it. -/
def RegsStepped (s t : State) (now late : Reg → Option Word) : Prop :=
  ∀ r : Reg,
    t.regs.stage3[r.toNat] = (now r).getD s.regs.stage2[r.toNat] ∧
    t.regs.stage2[r.toNat] = ((now r).or (late r)).getD s.regs.stage1[r.toNat] ∧
    t.regs.stage1[r.toNat] = ((now r).or (late r)).getD s.regs.stage1[r.toNat]

/-- No delayed write to `r` is pending: what it shows is what it will show (rule R47). -/
def Settled (s : State) (r : Reg) : Prop := s.regs.stage2[r.toNat] = s.regs.stage3[r.toNat] ∧
  s.regs.stage1[r.toNat] = s.regs.stage3[r.toNat]

/-! ### How a step ends -/

/-- The program counters after a retired instruction (rule R52). -/
def Sequenced (s t : State) (isBranch : Bool) (target : Option Word) : Prop :=
  t.pc = s.npc ∧ t.npc = target.getD (s.npc + 4#32) ∧ t.bd = isBranch ∧ t.lastStep = some .retired

/-- An instruction that wrote `v` to `rd` at once, and nothing else. -/
def RetiresWriting (s t : State) (rd : Reg) (v : Word) : Prop :=
  Sequenced s t false none ∧ RegsStepped s t (oneReg rd v) noReg ∧ AccKept s t ∧ Cop0Kept s t ∧ Cop2Kept s t ∧
    OutsideKept s t

/-- An instruction that wrote `v` to `rt` delayed, and nothing else. -/
def RetiresLoading (s t : State) (rt : Reg) (v : Word) : Prop :=
  Sequenced s t false none ∧ RegsStepped s t noReg (oneReg rt v) ∧ AccKept s t ∧ Cop0Kept s t ∧ Cop2Kept s t ∧
    OutsideKept s t

/-- An instruction that wrote HI and LO, and nothing else. -/
def RetiresHiLo (s t : State) (hi lo : Word) : Prop :=
  Sequenced s t false none ∧ RegsStepped s t noReg noReg ∧ (t.hi = hi ∧ t.lo = lo) ∧ Cop0Kept s t ∧ Cop2Kept s t ∧
    OutsideKept s t

/-- A branch or jump that recorded `target` (if any) and made the link write `link`, and nothing else (rule R260). -/
def RetiresBranch (s t : State) (target : Option Word) (link : Reg → Option Word) : Prop :=
  Sequenced s t true target ∧ RegsStepped s t link noReg ∧ AccKept s t ∧ Cop0Kept s t ∧ Cop2Kept s t ∧
    OutsideKept s t

/-- An instruction that left the whole state alone and only went on. -/
def RetiresQuietly (s t : State) : Prop :=
  Sequenced s t false none ∧ RegsStepped s t noReg noReg ∧ AccKept s t ∧ Cop0Kept s t ∧ Cop2Kept s t ∧ OutsideKept s t

/-- Exception entry from `s` with ExcCode `code`, where `ce` is the coprocessor number (CpU only) and `bad` the address
BadVaddr takes (AdEL and AdES only): every field, by the order of rule R410 (rules R410 to R416). -/
def Enters (s t : State) (code : BitVec 5) (ce : Option (BitVec 2)) (bad : Option Word) : Prop :=
  t.cop0.badVaddr = bad.getD s.cop0.badVaddr ∧
  t.cop0.epc = (if s.bd then s.pc - 4#32 else s.pc) ∧
  t.cop0.cause.getLsbD 31 = s.bd ∧
  t.cop0.cause.extractLsb' 2 5 = code ∧
  t.cop0.cause.extractLsb' 28 2 = ce.getD (s.cop0.cause.extractLsb' 28 2) ∧
  t.cop0.cause &&& 0x4FFFFF83#32 = s.cop0.cause &&& 0x4FFFFF83#32 ∧
  t.cop0.sr.extractLsb' 0 6 = s.cop0.sr.extractLsb' 0 4 ++ 0#2 ∧
  t.cop0.sr &&& 0xFFFFFFC0#32 = s.cop0.sr &&& 0xFFFFFFC0#32 ∧
  RegsStepped s t noReg noReg ∧
  t.pc = (if s.cop0.sr.getLsbD 22 then 0xBFC00180#32 else 0x80000080#32) ∧
  t.npc = t.pc + 4#32 ∧
  t.bd = false ∧
  t.lastStep = some (.excepted code) ∧
  (t.cop0.bpc = s.cop0.bpc ∧ t.cop0.bda = s.cop0.bda ∧ t.cop0.dcic = s.cop0.dcic ∧ t.cop0.bdam = s.cop0.bdam ∧
    t.cop0.bpcm = s.cop0.bpcm) ∧
  AccKept s t ∧ Cop2Kept s t ∧ OutsideKept s t

/-- `exec i s` ANSWERS A NEXT STATE, and that state is as `P` says. -/
def Yields (i : Instr) (s : State) (P : State → Prop) : Prop := ∃ t, exec i s = .next t ∧ P t

/-- `exec i s` takes the exception described by `Enters`. -/
def Traps (i : Instr) (s : State) (code : BitVec 5) (ce : Option (BitVec 2)) (bad : Option Word) : Prop :=
  Yields i s (fun t => Enters s t code ce bad)

/-! ### Memory accesses -/

/-- The byte of storage a located byte reads as. -/
def State.byteAt (s : State) (l : Loc) : Byte := Memory.byte s.mem (storageAddress s.cfg l)

/-- A located byte of a storage region, not of the I/O window. -/
def Loc.inStorage (l : Loc) : Prop := l.region ≠ .ioWindow

/-- A located byte of a region a store changes: storage other than the boot ROM (rules R110 to R115). -/
def Loc.writable (l : Loc) : Prop := l.region ≠ .ioWindow ∧ l.region ≠ .bootRom

/-- `p` lies in `[base, base + size)` (rule R108). -/
def Inside (r : Interval) (p : Nat) : Prop := r.base ≤ p ∧ p < r.base + r.size

/-- The physical address `p` is byte `l` of a region (rules R108, R122). -/
def MatchesPhysical (c : Config) (p : Nat) (l : Loc) : Prop :=
  (Inside c.mainMemory p ∧ l = ⟨.mainMemory, p - c.mainMemory.base⟩) ∨
  (Inside c.scratchPad p ∧ l = ⟨.scratchPad, p - c.scratchPad.base⟩) ∨
  (Inside c.parallelPort p ∧ l = ⟨.parallelPort, p - c.parallelPort.base⟩) ∨
  (Inside c.ioWindow p ∧ (∃ r ∈ c.ioSubranges, Inside r (p - c.ioWindow.base)) ∧
    l = ⟨.ioWindow, p - c.ioWindow.base⟩) ∨
  (Inside c.bootRom p ∧ l = ⟨.bootRom, p - c.bootRom.base⟩)

/-- Byte `j` of an access at `addr` is `ls[j]`, for every byte of it (rules R101 to R108, R122); addresses wrap (R137). -/
def Located (c : Config) (addr : Word) (ls : List Loc) : Prop :=
  ls.map some = (List.range ls.length).map (fun j => translate c (addr + BitVec.ofNat 32 j))

/-- Some byte of an `n`-byte access at `addr` has no region (rule R109). -/
def Unmapped (c : Config) (addr : Word) (n : Nat) : Prop := ∃ j, j < n ∧ translate c (addr + BitVec.ofNat 32 j) = none

/-- The storage addresses of the `n` bytes stored from `addr` up. -/
def StoredAt (s : State) (addr : Word) (n : Nat) (a : Nat) : Prop :=
  ∃ j, j < n ∧ ∃ l, translate s.cfg (addr + BitVec.ofNat 32 j) = some l ∧ a = storageAddress s.cfg l

/-- The effective address of a load or store (rules R310, R137). -/
def effectiveAddress (s : State) (rs : Reg) (imm : BitVec 16) : Word := s.x rs + imm.signExtend 32

/-- SR.IsC is set: data stores are discarded and data loads refused (rule R129). -/
def Isolated (s : State) : Prop := s.cop0.sr.getLsbD 16 = true

/-- User mode may not reach `addr` (rules R117, R430). -/
def Protected (s : State) (addr : Word) : Prop := s.cop0.sr.getLsbD 1 = true ∧ addr.getLsbD 31 = true

/-- The data loads with an alignment of their own: width, base and offset (rules R313, R314, R316 to R318). -/
inductive PlainLoad : Instr → Nat → Reg → BitVec 16 → Prop where
  | lb (rt rs : Reg) (imm : BitVec 16) : PlainLoad (.lb rt rs imm) 1 rs imm
  | lbu (rt rs : Reg) (imm : BitVec 16) : PlainLoad (.lbu rt rs imm) 1 rs imm
  | lh (rt rs : Reg) (imm : BitVec 16) : PlainLoad (.lh rt rs imm) 2 rs imm
  | lhu (rt rs : Reg) (imm : BitVec 16) : PlainLoad (.lhu rt rs imm) 2 rs imm
  | lw (rt rs : Reg) (imm : BitVec 16) : PlainLoad (.lw rt rs imm) 4 rs imm

/-- The stores with an alignment of their own: width, source, base and offset (rules R320, R321, R323). -/
inductive PlainStore : Instr → Nat → Reg → Reg → BitVec 16 → Prop where
  | sb (rt rs : Reg) (imm : BitVec 16) : PlainStore (.sb rt rs imm) 1 rt rs imm
  | sh (rt rs : Reg) (imm : BitVec 16) : PlainStore (.sh rt rs imm) 2 rt rs imm
  | sw (rt rs : Reg) (imm : BitVec 16) : PlainStore (.sw rt rs imm) 4 rt rs imm

/-! ### The peripheral router -/

/-- One `IoRead(off)` that answers `b` takes `s` to `u`: the host's next queued byte, or else a free value (R121). -/
def Answered (s u : State) (off : Nat) (b : Byte) : Prop :=
  (∃ rest, s.ioAnswers = b :: rest ∧ u = { s with ioAnswers := rest, ioTrace := .read off b :: s.ioTrace }) ∨
    (s.ioAnswers = [] ∧ b = Config.ioAnswer s.draws off ∧
      u = { s with draws := s.draws + 1, ioTrace := .read off b :: s.ioTrace })

/-- `ReadByte(l)` answers `b` and takes `s` to `u` (rules R110 to R115, R121). -/
def ReadsByte (s : State) (l : Loc) (b : Byte) (u : State) : Prop :=
  (l.region ≠ .ioWindow ∧ b = s.byteAt l ∧ u = s) ∨ (l.region = .ioWindow ∧ Answered s u l.off b)

/-- The bytes of `ls` are read in order (rules R123, R125). -/
def ReadsBytes (s : State) : List Loc → List Byte → State → Prop
  | [], bs, u => bs = [] ∧ u = s
  | l :: ls, bs, u => ∃ b rest m, bs = b :: rest ∧ ReadsByte s l b m ∧ ReadsBytes m ls rest u

/-- `WriteByte(l, b)` takes `s` to `u`: the router records it, the boot ROM discards it, the other regions store it and
no other byte (rules R110 to R115, R121). -/
def StoresByte (s : State) (l : Loc) (b : Byte) (u : State) : Prop :=
  match l.region with
  | .ioWindow => u = { s with ioTrace := .write l.off b :: s.ioTrace }
  | .bootRom => u = s
  | .mainMemory | .scratchPad | .parallelPort | .cacheControl =>
    u = { s with mem := u.mem } ∧ u.byteAt l = b ∧ MemKeptBut s u (fun a => a = storageAddress s.cfg l)

/-- The bytes `bs` are written to `ls` in order (rules R123, R126). -/
def StoresBytes (s : State) : List Loc → List Byte → State → Prop
  | [], bs, u => bs = [] ∧ u = s
  | l :: ls, bs, u => ∃ b rest m, bs = b :: rest ∧ StoresByte s l b m ∧ StoresBytes m ls rest u

/-! ### The start of a step -/

/-- The step from `s` samples the lines, takes no interrupt, and fetches the word `w`; `u` is the state after the fetch
(rules R400, R420, R421, R128). -/
def Fetches (s : State) (w : Word) (u : State) : Prop :=
  s.sampleLines.interruptTaken = false ∧ fetchWord s.sampleLines.pc s.sampleLines = .done w u

/-- A word with a reserved primary opcode or a reserved SPECIAL function, as rules R167, R168 and R173 list them. -/
def ReservedWord (w : Word) : Prop :=
  let op := w.toNat / 2 ^ 26
  let funct := w.toNat % 2 ^ 6
  (0x14 ≤ op ∧ op ≤ 0x1F) ∨ op = 0x27 ∨ op = 0x2C ∨ op = 0x2D ∨ op = 0x2F ∨ (0x34 ≤ op ∧ op ≤ 0x37) ∨
    (0x3C ≤ op ∧ op ≤ 0x3F) ∨
    (op = 0 ∧
      (funct = 0x01 ∨ funct = 0x05 ∨ funct = 0x0A ∨ funct = 0x0B ∨ funct = 0x0E ∨ funct = 0x0F ∨
        (0x14 ≤ funct ∧ funct ≤ 0x17) ∨ (0x1C ≤ funct ∧ funct ≤ 0x1F) ∨ funct = 0x28 ∨ funct = 0x29 ∨
        (0x2C ≤ funct ∧ funct ≤ 0x3F)))

/-! ### Coprocessors -/

/-- COP0 is usable: kernel mode, or CU0 (rule R343). -/
def Cop0Usable (s : State) : Prop := s.cop0.sr.getLsbD 1 = false ∨ s.cop0.sr.getLsbD 28 = true

/-- COP2 is usable: CU2 (rule R343). -/
def Cop2Usable (s : State) : Prop := s.cop0.sr.getLsbD 30 = true

/-- An instruction that changed the COP0 registers to `c`, and nothing else. -/
def RetiresCop0 (s t : State) (c : Cop0) : Prop :=
  Sequenced s t false none ∧ RegsStepped s t noReg noReg ∧ AccKept s t ∧ t.cop0 = c ∧ Cop2Kept s t ∧ OutsideKept s t

/-- A write of `v` to register `r` of a bank that has no hard-wired register (rule R80). -/
def onlyReg (r : Reg) (v : Word) : Reg → Option Word := fun k => if k = r then some v else none

/-- An instruction that made the COP2 data writes `d` and the COP2 control writes `c`, and nothing else. -/
def RetiresCop2 (s t : State) (d c : Reg → Option Word) : Prop :=
  Sequenced s t false none ∧ RegsStepped s t noReg noReg ∧ AccKept s t ∧ Cop0Kept s t ∧
    (∀ k : Reg, t.cop2d[k.toNat] = (d k).getD s.cop2d[k.toNat]) ∧
    (∀ k : Reg, t.cop2c[k.toNat] = (c k).getD s.cop2c[k.toNat]) ∧ OutsideKept s t

/-- An instruction that drew a free word and wrote it to `rt` delayed, and nothing else (rules R68, R69). -/
def RetiresDrawing (s t : State) (rt : Reg) : Prop :=
  Sequenced s t false none ∧ RegsStepped s t noReg (oneReg rt (Config.freeWord s.draws)) ∧ AccKept s t ∧ Cop0Kept s t ∧
    Cop2Kept s t ∧ MemKept s t ∧ IoKept s t ∧ PlatformKept s t ∧ t.draws = s.draws + 1

/-- The COP0 and COP2 instructions the spec refuses where they are usable (rules R347, R348, R350, R357, R358). -/
inductive Unimplemented : Instr → BitVec 2 → Prop where
  | cfc0 (rt rd : Reg) : Unimplemented (.cfc0 rt rd) 0
  | ctc0 (rt rd : Reg) : Unimplemented (.ctc0 rt rd) 0
  | lwc0 (rt rs : Reg) (imm : BitVec 16) : Unimplemented (.lwc0 rt rs imm) 0
  | swc0 (rt rs : Reg) (imm : BitVec 16) : Unimplemented (.swc0 rt rs imm) 0
  | bc0f (imm : BitVec 16) : Unimplemented (.bc0f imm) 0
  | bc0t (imm : BitVec 16) : Unimplemented (.bc0t imm) 0
  | cop0 (cofun : BitVec 25) : Unimplemented (.cop0 cofun) 0
  | bc2f (imm : BitVec 16) : Unimplemented (.bc2f imm) 2
  | bc2t (imm : BitVec 16) : Unimplemented (.bc2t imm) 2
  | cop2 (cofun : BitVec 25) : Unimplemented (.cop2 cofun) 2

/-- The instructions of the absent coprocessors 1 and 3 (rule R344). -/
inductive AbsentCop : Instr → BitVec 2 → Prop where
  | cop1 (body : BitVec 26) : AbsentCop (.cop1 body) 1
  | lwc1 (rt rs : Reg) (imm : BitVec 16) : AbsentCop (.lwc1 rt rs imm) 1
  | swc1 (rt rs : Reg) (imm : BitVec 16) : AbsentCop (.swc1 rt rs imm) 1
  | cop3 (body : BitVec 26) : AbsentCop (.cop3 body) 3
  | lwc3 (rt rs : Reg) (imm : BitVec 16) : AbsentCop (.lwc3 rt rs imm) 3
  | swc3 (rt rs : Reg) (imm : BitVec 16) : AbsentCop (.swc3 rt rs imm) 3

/-- Every COP0 and COP2 instruction with the number of its coprocessor (rule R341). -/
inductive CopInstr : Instr → BitVec 2 → Prop where
  | refused {i : Instr} {z : BitVec 2} (h : Unimplemented i z) : CopInstr i z
  | mfc0 (rt rd : Reg) : CopInstr (.mfc0 rt rd) 0
  | mtc0 (rt rd : Reg) : CopInstr (.mtc0 rt rd) 0
  | rfe : CopInstr .rfe 0
  | mfc2 (rt rd : Reg) : CopInstr (.mfc2 rt rd) 2
  | cfc2 (rt rd : Reg) : CopInstr (.cfc2 rt rd) 2
  | mtc2 (rt rd : Reg) : CopInstr (.mtc2 rt rd) 2
  | ctc2 (rt rd : Reg) : CopInstr (.ctc2 rt rd) 2
  | lwc2 (rt rs : Reg) (imm : BitVec 16) : CopInstr (.lwc2 rt rs imm) 2
  | swc2 (rt rs : Reg) (imm : BitVec 16) : CopInstr (.swc2 rt rs imm) 2

/-- The instructions that may store (rules R320 to R324, R356). -/
inductive StoreInstr : Instr → Prop where
  | sb (rt rs : Reg) (imm : BitVec 16) : StoreInstr (.sb rt rs imm)
  | sh (rt rs : Reg) (imm : BitVec 16) : StoreInstr (.sh rt rs imm)
  | swl (rt rs : Reg) (imm : BitVec 16) : StoreInstr (.swl rt rs imm)
  | sw (rt rs : Reg) (imm : BitVec 16) : StoreInstr (.sw rt rs imm)
  | swr (rt rs : Reg) (imm : BitVec 16) : StoreInstr (.swr rt rs imm)
  | swc2 (rt rs : Reg) (imm : BitVec 16) : StoreInstr (.swc2 rt rs imm)

/-- Two states that agree in everything but the COP0 registers user mode can neither read nor feel: the debug registers,
BadVaddr and EPC (rules R430, R345). -/
def SameButPrivileged (s t : State) : Prop :=
  t = { s with
        cop0 :=
          { s.cop0 with
            bpc := t.cop0.bpc, bda := t.cop0.bda, dcic := t.cop0.dcic, badVaddr := t.cop0.badVaddr
            bdam := t.cop0.bdam, bpcm := t.cop0.bpcm, epc := t.cop0.epc } }

/-! ### The invariant of every step -/

/-- Stage entries at index 0 are 0 (rule R46). -/
def ZeroRegister (s : State) : Prop := s.regs.stage1[0] = 0#32 ∧ s.regs.stage2[0] = 0#32 ∧ s.regs.stage3[0] = 0#32

/-- At an instruction boundary stages 1 and 2 agree (rule R47). -/
def StagesAgree (s : State) : Prop := s.regs.stage1 = s.regs.stage2

/-- The read-0 bits of SR and CAUSE are 0 (rules R61 to R63). -/
def ReservedBitsZero (s : State) : Prop :=
  s.cop0.sr &&& 0x0D8000C0#32 = 0#32 ∧ s.cop0.cause &&& 0x4FFF0083#32 = 0#32

/-- Outside a delay slot the next instruction is the following word (rules R50, R52). -/
def NormalSequence (s : State) : Prop := s.bd = false → s.npc = s.pc + 4#32

/-- What holds at reset and after every step. -/
structure Inv (s : State) : Prop where
  memory : Memory.wf s.mem = true
  zero : ZeroRegister s
  stages : StagesAgree s
  reserved : ReservedBitsZero s
  sequence : NormalSequence s

end Sys2Proof.Machine
end

