-- ==== Sys2Proof/Certificates/Slice0/Obligations.lean ====
section
/-! DEFINITION. The statements about the CORE. Their terms stand in Safety.lean; each docstring names the rules. -/

open Sys2Proof Sys2Proof.Machine

/-! ### Encoding (spec/30_encoding.md) -/

/-- Decoding the encoding of a well-formed instruction gives it back (rules R160 to R171). -/
def Obligations.DecodeOfEncodeIsTheInstruction : Prop := ∀ i : Instr, i.WellFormed → decode (encode i) = .ok i

/-- Rule R172: a word decodes to `i` exactly when it agrees with `i`'s encoding on the bits `i` uses; every other bit is
ignored. -/
def Obligations.UnusedFieldsAreIgnored : Prop :=
  ∀ (w : Word) (i : Instr), decode w = .ok i ↔ i.WellFormed ∧ w &&& i.row.used = encode i

/-- Rule R173, with the reserved numbers of rules R167 and R168. -/
def Obligations.ReservedWordsRaiseReservedInstruction : Prop :=
  (∀ w, decode w = .error .reservedInstruction ↔ ReservedWord w) ∧
  ∀ s u w, Fetches s w u → ReservedWord w → ∃ t, step s = .next t ∧ Enters u t 10 none none

/-- Rules R174 and R175: BCOND with an undefined `rt`, a COP0 or COP2 word with a reserved selector, and BCz with an
undefined sense. -/
def Obligations.UndefinedSelectors : Prop :=
  (∀ s u (rs rt : Reg) (imm : BitVec 16), Fetches s (0x01#6 ++ rs ++ rt ++ imm) u →
    rt ≠ 0x00 → rt ≠ 0x01 → rt ≠ 0x10 → rt ≠ 0x11 → step s = .refused .undecodedBcond) ∧
  (∀ s u (rs : Reg) (low : BitVec 21),
    rs = 0x01 ∨ rs = 0x03 ∨ rs = 0x05 ∨ rs = 0x07 ∨ (0x09 ≤ rs.toNat ∧ rs.toNat ≤ 0x0F) →
    (Fetches s (0x10#6 ++ rs ++ low) u →
      (Cop0Usable u → ∃ t, step s = .next t ∧ Enters u t 10 none none) ∧
      (¬ Cop0Usable u → ∃ t, step s = .next t ∧ Enters u t 11 (some 0) none)) ∧
    (Fetches s (0x12#6 ++ rs ++ low) u →
      (Cop2Usable u → ∃ t, step s = .next t ∧ Enters u t 10 none none) ∧
      (¬ Cop2Usable u → ∃ t, step s = .next t ∧ Enters u t 11 (some 2) none))) ∧
  (∀ s u (rt : Reg) (imm : BitVec 16), 2 ≤ rt.toNat →
    (Fetches s (0x10#6 ++ 0x08#5 ++ rt ++ imm) u →
      (Cop0Usable u → step s = .refused .unimplemented) ∧
      (¬ Cop0Usable u → ∃ t, step s = .next t ∧ Enters u t 11 (some 0) none)) ∧
    (Fetches s (0x12#6 ++ 0x08#5 ++ rt ++ imm) u →
      (Cop2Usable u → step s = .refused .unimplemented) ∧
      (¬ Cop2Usable u → ∃ t, step s = .next t ∧ Enters u t 11 (some 2) none)))

/-- Words the spec's own examples give, decoded (spec/40 to spec/44). -/
def Obligations.ExampleWordsDecode : Prop :=
  decode 0x00031100 = .ok (.sll 2 3 4) ∧ decode 0x00831007 = .ok (.srav 2 3 4) ∧
  decode 0x0080F809 = .ok (.jalr 31 4) ∧ decode 0x0000000C = .ok (.syscall 0) ∧
  decode 0x0085001A = .ok (.div 4 5) ∧ decode 0x0022182A = .ok (.slt 3 1 2) ∧
  decode 0x07F10002 = .ok (.bgezal 31 2) ∧ decode 0x0C008000 = .ok (.jal 0x8000) ∧
  decode 0x10220003 = .ok (.beq 1 2 3) ∧ decode 0x2021FFF6 = .ok (.addi 1 1 0xFFF6) ∧
  decode 0x3C028001 = .ok (.lui 2 0x8001) ∧ decode 0x88220002 = .ok (.lwl 2 1 2) ∧
  decode 0xB8220003 = .ok (.swr 2 1 3) ∧ decode 0x40036000 = .ok (.mfc0 3 12) ∧
  decode 0x42000010 = .ok .rfe ∧ decode 0x48C22800 = .ok (.ctc2 2 5) ∧
  decode 0x4A180001 = .ok (.cop2 0x180001) ∧ decode 0xC8250000 = .ok (.lwc2 5 1 0)

/-! ### One step (rules R400 to R402, R420, R421) -/

/-- A step that fetches a word which decodes to `i` is `exec i`, on the state after the fetch. Moving past the
instruction is part of `exec` (rule R52). -/
def Obligations.StepRunsTheDecodedInstruction : Prop :=
  ∀ s u w i, Fetches s w u → decode w = .ok i → step s = exec i u

/-- Rule R128: FetchWord, with the checks in their order; the bytes are read in order, from the router too. -/
def Obligations.FetchReadsTheWordAtPc : Prop :=
  ∀ (a : Word) (s : State),
    (a.toNat % 4 ≠ 0 → fetchWord a s = .raised (.adEL a)) ∧
    (a.toNat % 4 = 0 → Protected s a → fetchWord a s = .raised (.adEL a)) ∧
    (a.toNat % 4 = 0 → ¬ Protected s a →
      (Unmapped s.cfg a 4 → fetchWord a s = .raised (.ibe a)) ∧
      (∀ l0 l1 l2 l3, Located s.cfg a [l0, l1, l2, l3] → ∃ b0 b1 b2 b3 u,
        ReadsBytes s [l0, l1, l2, l3] [b0, b1, b2, b3] u ∧ fetchWord a s = .done (b3 ++ b2 ++ b1 ++ b0) u))

/-- A fetch that cannot be made enters its exception: AdEL with BadVaddr the pc, or IBE, which leaves BadVaddr alone
(rules R128, R273, R403, R412). -/
def Obligations.FetchFaultsEnter : Prop :=
  ∀ s : State, s.sampleLines.interruptTaken = false →
    (s.pc.toNat % 4 ≠ 0 ∨ Protected s s.pc →
      ∃ t, step s = .next t ∧ Enters s.sampleLines t 4 none (some s.pc)) ∧
    (s.pc.toNat % 4 = 0 → ¬ Protected s s.pc → Unmapped s.cfg s.pc 4 →
      ∃ t, step s = .next t ∧ Enters s.sampleLines t 6 none none)

/-- After every step CAUSE[15:10] is the level of the lines at that step (rule R420). That the levels come from the
schedule `lineInputs` is the model's choice, log entry 2. -/
def Obligations.CauseFollowsTheLines : Prop :=
  ∀ s t, step s = .next t →
    t.cop0.cause.extractLsb' 10 6 = s.lineInputs.head?.getD s.intLines ∧
    t.intLines = s.lineInputs.head?.getD s.intLines ∧ t.lineInputs = s.lineInputs.tail

/-- Rule R421: an interrupt is taken, before the fetch, exactly when IEc is set and IM and IP share a bit. -/
def Obligations.InterruptIsTakenExactlyWhenEnabledAndUnmasked : Prop :=
  ∀ s : State,
    let u := s.sampleLines
    let ready := u.cop0.sr.getLsbD 0 = true ∧ ∃ k, k < 8 ∧ u.cop0.sr.getLsbD (8 + k) = true ∧
      u.cop0.cause.getLsbD (8 + k) = true
    (ready → ∃ t, step s = .next t ∧ Enters u t 0 none none) ∧
    (¬ ready → ∀ t, step s = .next t → t.lastStep ≠ some (.excepted 0))

/-- A step never faults; it retires, and then the next instruction is the one at `npc`, or it enters an exception, and
then the next instruction is the one at the vector (rules R401, R52, R415). -/
def Obligations.StepRetiresOrEntersTheVector : Prop :=
  ∀ s : State, (∀ r, step s ≠ .fault r) ∧ ∀ t, step s = .next t →
    (t.lastStep = some .retired ∧ t.pc = s.npc) ∨
    ∃ c, t.lastStep = some (.excepted c) ∧ (c = 0 ∨ (4 ≤ c.toNat ∧ c.toNat ≤ 12)) ∧ t.bd = false ∧
      t.pc = (if s.cop0.sr.getLsbD 22 then 0xBFC00180 else 0x80000080) ∧ t.npc = t.pc + 4

/-! ### Exceptions (rules R410 to R417) -/

/-- Rule R410: what entry does, for each exception with the code of rule R411. -/
def Obligations.ExceptionEntryRecords : Prop :=
  ∀ s : State,
    Enters s (s.enter .int) 0 none none ∧
    (∀ a, Enters s (s.enter (.adEL a)) 4 none (some a)) ∧ (∀ a, Enters s (s.enter (.adES a)) 5 none (some a)) ∧
    (∀ a, Enters s (s.enter (.ibe a)) 6 none none) ∧ (∀ a, Enters s (s.enter (.dbe a)) 7 none none) ∧
    Enters s (s.enter .sys) 8 none none ∧ Enters s (s.enter .bp) 9 none none ∧ Enters s (s.enter .ri) 10 none none ∧
    (∀ z, Enters s (s.enter (.cpU z)) 11 (some z) none) ∧ Enters s (s.enter .ov) 12 none none

/-- Rule R402: an instruction that excepts has had no effect: the state is the one exception entry makes of the state
before it. -/
def Obligations.ExceptedInstructionHasNoOtherEffect : Prop :=
  ∀ i s t c, exec i s = .next t → t.lastStep = some (.excepted c) →
    ∃ ce bad, Enters s t c ce bad ∧ (c ≠ 11 → ce = none) ∧ (c ≠ 4 → c ≠ 5 → bad = none) ∧
      (c = 4 ∨ c = 5 ∨ c = 7 ∨ c = 8 ∨ c = 9 ∨ c = 11 ∨ c = 12)

/-- Rule R431: the mode changes only by exception entry (to kernel), RFE and MTC0 to SR, the last two where COP0 is
usable; reset enters kernel mode. -/
def Obligations.ModeChangesOnlyByEntryRfeAndMtc0 : Prop :=
  (∀ s t, step s = .next t → t.cop0.sr.getLsbD 1 ≠ s.cop0.sr.getLsbD 1 →
    ((∃ c, t.lastStep = some (.excepted c)) ∧ t.cop0.sr.getLsbD 1 = false) ∨
    ∃ w u, Fetches s w u ∧ Cop0Usable s ∧ (decode w = .ok .rfe ∨ ∃ rt, decode w = .ok (.mtc0 rt 12))) ∧
  ∀ d s t, applyReset d s = .next t → t.cop0.sr.getLsbD 1 = false

/-- Rule R349: RFE pops the (KU, IE) stack and changes nothing else; its bits 24:6 are ignored. -/
def Obligations.RfePopsTheStatusStack : Prop :=
  (∀ b : BitVec 19, decode (0x10#6 ++ 1#1 ++ b ++ 0x10#6) = .ok .rfe) ∧
  (∀ s, Cop0Usable s → Yields .rfe s fun t =>
    RetiresCop0 s t { s.cop0 with sr := t.cop0.sr } ∧
    t.cop0.sr.extractLsb' 0 4 = s.cop0.sr.extractLsb' 2 4 ∧
    t.cop0.sr.extractLsb' 4 28 = s.cop0.sr.extractLsb' 4 28) ∧
  ∀ s, ¬ Cop0Usable s → Traps .rfe s 11 (some 0) none

/-- An exception entry followed, with SR unchanged in between, by RFE gives back the mode and the interrupt enable of
both the current and the previous pair; the old pair is lost (rules R414, R349, R419). -/
def Obligations.RfeUndoesExceptionEntry : Prop :=
  ∀ (s u v : State) (e : Exc), u.cop0.sr = (s.enter e).cop0.sr → exec .rfe u = .next v →
    v.cop0.sr.extractLsb' 0 4 = s.cop0.sr.extractLsb' 0 4 ∧
    v.cop0.sr.extractLsb' 4 2 = s.cop0.sr.extractLsb' 2 2 ∧
    v.cop0.sr.extractLsb' 6 26 = s.cop0.sr.extractLsb' 6 26

/-- Rules R213 and R214: SYSCALL and BREAK take Sys and Bp, whatever their code field. -/
def Obligations.SyscallAndBreakTrap : Prop :=
  ∀ (code : BitVec 20) (s : State),
    decode (0x00#6 ++ code ++ 0x0C#6) = .ok (.syscall code) ∧ Traps (.syscall code) s 8 none none ∧
    decode (0x00#6 ++ code ++ 0x0D#6) = .ok (.brk code) ∧ Traps (.brk code) s 9 none none

/-- Rule R274: an exception in a delay slot restarts at the branch. -/
def Obligations.ExceptionInADelaySlotRestartsTheBranch : Prop :=
  ∀ i b s t c, exec i b = .next s → s.bd = true → b.npc = b.pc + 4 →
    step s = .next t → t.lastStep = some (.excepted c) →
    t.cop0.epc = b.pc ∧ t.cop0.cause.getLsbD 31 = true ∧ t.bd = false ∧
    t.pc = (if b.cop0.sr.getLsbD 22 then 0xBFC00180 else 0x80000080) ∧ t.npc = t.pc + 4

/-! ### The SPECIAL family: shifts, arithmetic, logic, comparisons (spec/40_special.md) -/

/-- Rules R205 to R207: SLL, SRL, SRA. -/
def Obligations.ShiftsByAConstant : Prop :=
  ∀ (rs rd rt : Reg) (n : BitVec 5) (s : State),
    decode (0x00#6 ++ rs ++ rt ++ rd ++ n ++ 0x00#6) = .ok (.sll rd rt n) ∧
    Yields (.sll rd rt n) s
      (fun t => RetiresWriting s t rd (BitVec.ofNat 32 ((s.x rt).toNat * 2 ^ n.toNat))) ∧
    decode (0x00#6 ++ rs ++ rt ++ rd ++ n ++ 0x02#6) = .ok (.srl rd rt n) ∧
    Yields (.srl rd rt n) s
      (fun t => RetiresWriting s t rd (BitVec.ofNat 32 ((s.x rt).toNat / 2 ^ n.toNat))) ∧
    decode (0x00#6 ++ rs ++ rt ++ rd ++ n ++ 0x03#6) = .ok (.sra rd rt n) ∧
    Yields (.sra rd rt n) s
      (fun t => RetiresWriting s t rd (BitVec.ofInt 32 ((s.x rt).toInt / 2 ^ n.toNat)))

/-- Rules R208 to R210: SLLV, SRLV, SRAV; only the low five bits of the amount count. -/
def Obligations.ShiftsByARegister : Prop :=
  ∀ (rd rt rs : Reg) (sh : BitVec 5) (s : State),
    let n := (s.x rs).toNat % 32
    decode (0x00#6 ++ rs ++ rt ++ rd ++ sh ++ 0x04#6) = .ok (.sllv rd rt rs) ∧
    Yields (.sllv rd rt rs) s (fun t => RetiresWriting s t rd (BitVec.ofNat 32 ((s.x rt).toNat * 2 ^ n))) ∧
    decode (0x00#6 ++ rs ++ rt ++ rd ++ sh ++ 0x06#6) = .ok (.srlv rd rt rs) ∧
    Yields (.srlv rd rt rs) s (fun t => RetiresWriting s t rd (BitVec.ofNat 32 ((s.x rt).toNat / 2 ^ n))) ∧
    decode (0x00#6 ++ rs ++ rt ++ rd ++ sh ++ 0x07#6) = .ok (.srav rd rt rs) ∧
    Yields (.srav rd rt rs) s (fun t => RetiresWriting s t rd (BitVec.ofInt 32 ((s.x rt).toInt / 2 ^ n)))

/-- Rules R223, R225 and R291: ADD, SUB and ADDI write the exact result where it fits 32 signed bits, and otherwise raise
Ov and write nothing, with destination $0 too. -/
def Obligations.TrappingArithmetic : Prop :=
  (∀ (rd rs rt : Reg) (sh : BitVec 5),
    decode (0x00#6 ++ rs ++ rt ++ rd ++ sh ++ 0x20#6) = .ok (.add rd rs rt) ∧
    decode (0x00#6 ++ rs ++ rt ++ rd ++ sh ++ 0x22#6) = .ok (.sub rd rs rt)) ∧
  (∀ (rs rt : Reg) (imm : BitVec 16), decode (0x08#6 ++ rs ++ rt ++ imm) = .ok (.addi rt rs imm)) ∧
  ∀ (d a b : Reg) (imm : BitVec 16) (s : State),
    let fits (r : Int) := -2147483648 ≤ r ∧ r ≤ 2147483647
    let sum := (s.x a).toInt + (s.x b).toInt
    let difference := (s.x a).toInt - (s.x b).toInt
    let isum := (s.x a).toInt + imm.toInt
    (fits sum → Yields (.add d a b) s fun t => RetiresWriting s t d (BitVec.ofInt 32 sum)) ∧
    (¬ fits sum → Traps (.add d a b) s 12 none none) ∧
    (fits difference → Yields (.sub d a b) s fun t => RetiresWriting s t d (BitVec.ofInt 32 difference)) ∧
    (¬ fits difference → Traps (.sub d a b) s 12 none none) ∧
    (fits isum → Yields (.addi d a imm) s fun t => RetiresWriting s t d (BitVec.ofInt 32 isum)) ∧
    (¬ fits isum → Traps (.addi d a imm) s 12 none none)

/-- Rules R224, R226 and R292: ADDU, SUBU and ADDIU wrap modulo 2^32 and never trap. -/
def Obligations.WrappingArithmetic : Prop :=
  ∀ (d a b : Reg) (sh : BitVec 5) (imm : BitVec 16) (s : State),
    decode (0x00#6 ++ a ++ b ++ d ++ sh ++ 0x21#6) = .ok (.addu d a b) ∧
    Yields (.addu d a b) s (fun t => RetiresWriting s t d (BitVec.ofNat 32 ((s.x a).toNat + (s.x b).toNat))) ∧
    decode (0x00#6 ++ a ++ b ++ d ++ sh ++ 0x23#6) = .ok (.subu d a b) ∧
    Yields (.subu d a b) s (fun t => RetiresWriting s t d (BitVec.ofInt 32 ((s.x a).toNat - (s.x b).toNat))) ∧
    decode (0x09#6 ++ a ++ d ++ imm) = .ok (.addiu d a imm) ∧
    Yields (.addiu d a imm) s (fun t => RetiresWriting s t d (BitVec.ofInt 32 ((s.x a).toNat + imm.toInt)))

/-- Rules R227 to R230: AND, OR, XOR and NOR, bit by bit. -/
def Obligations.LogicOfRegisters : Prop :=
  ∀ (rd rs rt : Reg) (sh : BitVec 5) (s : State),
    decode (0x00#6 ++ rs ++ rt ++ rd ++ sh ++ 0x24#6) = .ok (.and rd rs rt) ∧
    (∃ v : Word, Yields (.and rd rs rt) s (fun t => RetiresWriting s t rd v) ∧
      ∀ k, k < 32 → v.getLsbD k = ((s.x rs).getLsbD k && (s.x rt).getLsbD k)) ∧
    decode (0x00#6 ++ rs ++ rt ++ rd ++ sh ++ 0x25#6) = .ok (.or rd rs rt) ∧
    (∃ v : Word, Yields (.or rd rs rt) s (fun t => RetiresWriting s t rd v) ∧
      ∀ k, k < 32 → v.getLsbD k = ((s.x rs).getLsbD k || (s.x rt).getLsbD k)) ∧
    decode (0x00#6 ++ rs ++ rt ++ rd ++ sh ++ 0x26#6) = .ok (.xor rd rs rt) ∧
    (∃ v : Word, Yields (.xor rd rs rt) s (fun t => RetiresWriting s t rd v) ∧
      ∀ k, k < 32 → v.getLsbD k = ((s.x rs).getLsbD k != (s.x rt).getLsbD k)) ∧
    decode (0x00#6 ++ rs ++ rt ++ rd ++ sh ++ 0x27#6) = .ok (.nor rd rs rt) ∧
    (∃ v : Word, Yields (.nor rd rs rt) s (fun t => RetiresWriting s t rd v) ∧
      ∀ k, k < 32 → v.getLsbD k = !((s.x rs).getLsbD k || (s.x rt).getLsbD k))

/-- Rules R295 to R298: ANDI, ORI and XORI on the zero-extended immediate, and LUI. -/
def Obligations.LogicOfImmediates : Prop :=
  ∀ (rt rs : Reg) (imm : BitVec 16) (s : State),
    decode (0x0C#6 ++ rs ++ rt ++ imm) = .ok (.andi rt rs imm) ∧
    (∃ v : Word, Yields (.andi rt rs imm) s (fun t => RetiresWriting s t rt v) ∧
      ∀ k, k < 32 → v.getLsbD k = ((s.x rs).getLsbD k && (decide (k < 16) && imm.getLsbD k))) ∧
    decode (0x0D#6 ++ rs ++ rt ++ imm) = .ok (.ori rt rs imm) ∧
    (∃ v : Word, Yields (.ori rt rs imm) s (fun t => RetiresWriting s t rt v) ∧
      ∀ k, k < 32 → v.getLsbD k = ((s.x rs).getLsbD k || (decide (k < 16) && imm.getLsbD k))) ∧
    decode (0x0E#6 ++ rs ++ rt ++ imm) = .ok (.xori rt rs imm) ∧
    (∃ v : Word, Yields (.xori rt rs imm) s (fun t => RetiresWriting s t rt v) ∧
      ∀ k, k < 32 → v.getLsbD k = ((s.x rs).getLsbD k != (decide (k < 16) && imm.getLsbD k))) ∧
    decode (0x0F#6 ++ rs ++ rt ++ imm) = .ok (.lui rt imm) ∧
    Yields (.lui rt imm) s (fun t => RetiresWriting s t rt (BitVec.ofNat 32 (imm.toNat * 65536)))

/-- Rules R231, R232, R293 and R294: SLT, SLTU, SLTI and SLTIU; SLTIU compares with the sign-extended immediate read as
unsigned. -/
def Obligations.Comparisons : Prop :=
  ∀ (d a b : Reg) (sh : BitVec 5) (imm : BitVec 16) (s : State),
    decode (0x00#6 ++ a ++ b ++ d ++ sh ++ 0x2A#6) = .ok (.slt d a b) ∧
    Yields (.slt d a b) s (fun t => RetiresWriting s t d (if (s.x a).toInt < (s.x b).toInt then 1 else 0)) ∧
    decode (0x00#6 ++ a ++ b ++ d ++ sh ++ 0x2B#6) = .ok (.sltu d a b) ∧
    Yields (.sltu d a b) s (fun t => RetiresWriting s t d (if (s.x a).toNat < (s.x b).toNat then 1 else 0)) ∧
    decode (0x0A#6 ++ a ++ d ++ imm) = .ok (.slti d a imm) ∧
    Yields (.slti d a imm) s (fun t => RetiresWriting s t d (if (s.x a).toInt < imm.toInt then 1 else 0)) ∧
    decode (0x0B#6 ++ a ++ d ++ imm) = .ok (.sltiu d a imm) ∧
    Yields (.sltiu d a imm) s (fun t => RetiresWriting s t d
      (if ((s.x a).toNat : Int) < (if imm.toInt < 0 then imm.toInt + 4294967296 else imm.toInt) then 1 else 0))

/-- Rule R299: where ADDI does not raise Ov, ADDI and ADDIU end in the same state; ADDI raises Ov exactly by the sign
condition. -/
def Obligations.AddiAndAddiuAgree : Prop :=
  ∀ (rt rs : Reg) (imm : BitVec 16) (s : State),
    let simm : Word := imm.signExtend 32
    let overflows := (s.x rs).msb = simm.msb ∧ (s.x rs + simm).msb ≠ (s.x rs).msb
    (overflows ↔ ∃ t, exec (.addi rt rs imm) s = .next t ∧ t.lastStep = some (.excepted 12)) ∧
    (¬ overflows → exec (.addi rt rs imm) s = exec (.addiu rt rs imm) s)

/-! ### HI and LO (rules R202, R203, R215 to R222) -/

/-- Rules R202, R219 and R220: MULT and MULTU write the exact 64-bit product. -/
def Obligations.ProductsAreExact : Prop :=
  ∀ (rs rt rd : Reg) (sh : BitVec 5) (s : State),
    decode (0x00#6 ++ rs ++ rt ++ rd ++ sh ++ 0x18#6) = .ok (.mult rs rt) ∧
    (∃ hi lo : Word, Yields (.mult rs rt) s (fun t => RetiresHiLo s t hi lo) ∧
      (hi ++ lo).toInt = (s.x rs).toInt * (s.x rt).toInt) ∧
    decode (0x00#6 ++ rs ++ rt ++ rd ++ sh ++ 0x19#6) = .ok (.multu rs rt) ∧
    (∃ hi lo : Word, Yields (.multu rs rt) s (fun t => RetiresHiLo s t hi lo) ∧
      (hi ++ lo).toNat = (s.x rs).toNat * (s.x rt).toNat)

/-- Rule R221: DIV, with its values for a zero divisor and for 0x80000000 / -1. Elsewhere quotient and remainder are the
ones of truncated division: `n = q * d + r`, `|r| < |d|`, and `r` is 0 or has the sign of `n`. -/
def Obligations.SignedDivision : Prop :=
  ∀ (rs rt rd : Reg) (sh : BitVec 5) (s : State),
    let n := s.x rs
    let d := s.x rt
    decode (0x00#6 ++ rs ++ rt ++ rd ++ sh ++ 0x1A#6) = .ok (.div rs rt) ∧
    (d = 0 → 0 ≤ n.toInt → Yields (.div rs rt) s fun t => RetiresHiLo s t n 0xFFFFFFFF) ∧
    (d = 0 → n.toInt < 0 → Yields (.div rs rt) s fun t => RetiresHiLo s t n 0x00000001) ∧
    (n = 0x80000000 → d = 0xFFFFFFFF → Yields (.div rs rt) s fun t => RetiresHiLo s t 0 0x80000000) ∧
    (d ≠ 0 → ¬ (n = 0x80000000 ∧ d = 0xFFFFFFFF) →
      ∃ q r : Word, Yields (.div rs rt) s (fun t => RetiresHiLo s t r q) ∧
        n.toInt = q.toInt * d.toInt + r.toInt ∧ r.toInt.natAbs < d.toInt.natAbs ∧
        (0 ≤ n.toInt → 0 ≤ r.toInt) ∧ (n.toInt ≤ 0 → r.toInt ≤ 0))

/-- Rule R222: DIVU. -/
def Obligations.UnsignedDivision : Prop :=
  ∀ (rs rt rd : Reg) (sh : BitVec 5) (s : State),
    let n := s.x rs
    let d := s.x rt
    decode (0x00#6 ++ rs ++ rt ++ rd ++ sh ++ 0x1B#6) = .ok (.divu rs rt) ∧
    (d = 0 → Yields (.divu rs rt) s fun t => RetiresHiLo s t n 0xFFFFFFFF) ∧
    (d ≠ 0 → ∃ q r : Word, Yields (.divu rs rt) s (fun t => RetiresHiLo s t r q) ∧
      n.toNat = q.toNat * d.toNat + r.toNat ∧ r.toNat < d.toNat)

/-- Rules R215 to R218: MFHI, MTHI, MFLO, MTLO. -/
def Obligations.MovesOfHiAndLo : Prop :=
  ∀ (r z1 z2 : Reg) (sh : BitVec 5) (s : State),
    decode (0x00#6 ++ z1 ++ z2 ++ r ++ sh ++ 0x10#6) = .ok (.mfhi r) ∧
    Yields (.mfhi r) s (fun t => RetiresWriting s t r s.hi) ∧
    decode (0x00#6 ++ r ++ z1 ++ z2 ++ sh ++ 0x11#6) = .ok (.mthi r) ∧
    Yields (.mthi r) s (fun t => RetiresHiLo s t (s.x r) s.lo) ∧
    decode (0x00#6 ++ z1 ++ z2 ++ r ++ sh ++ 0x12#6) = .ok (.mflo r) ∧
    Yields (.mflo r) s (fun t => RetiresWriting s t r s.lo) ∧
    decode (0x00#6 ++ r ++ z1 ++ z2 ++ sh ++ 0x13#6) = .ok (.mtlo r) ∧
    Yields (.mtlo r) s (fun t => RetiresHiLo s t s.hi (s.x r))

/-! ### Control transfer (spec/41_branch_jump.md, rules R211, R212) -/

/-- Rules R262, R263 and R266 to R269: the branches that do not link. -/
def Obligations.ConditionalBranches : Prop :=
  ∀ (rs rt : Reg) (imm : BitVec 16) (s : State),
    let goesTo (c : Prop) (t : State) := ∃ g, (c → g = some (s.pc + 4 + BitVec.ofInt 32 (imm.toInt * 4))) ∧
      (¬ c → g = none) ∧ RetiresBranch s t g noReg
    decode (0x01#6 ++ rs ++ 0x00#5 ++ imm) = .ok (.bltz rs imm) ∧
    Yields (.bltz rs imm) s (goesTo ((s.x rs).toInt < 0)) ∧
    decode (0x01#6 ++ rs ++ 0x01#5 ++ imm) = .ok (.bgez rs imm) ∧
    Yields (.bgez rs imm) s (goesTo ((s.x rs).toInt ≥ 0)) ∧
    decode (0x04#6 ++ rs ++ rt ++ imm) = .ok (.beq rs rt imm) ∧
    Yields (.beq rs rt imm) s (goesTo (s.x rs = s.x rt)) ∧
    decode (0x05#6 ++ rs ++ rt ++ imm) = .ok (.bne rs rt imm) ∧
    Yields (.bne rs rt imm) s (goesTo (s.x rs ≠ s.x rt)) ∧
    decode (0x06#6 ++ rs ++ rt ++ imm) = .ok (.blez rs imm) ∧
    Yields (.blez rs imm) s (goesTo ((s.x rs).toInt ≤ 0)) ∧
    decode (0x07#6 ++ rs ++ rt ++ imm) = .ok (.bgtz rs imm) ∧
    Yields (.bgtz rs imm) s (goesTo ((s.x rs).toInt > 0))

/-- Rules R261, R264 and R265: BLTZAL and BGEZAL link, taken or not; the condition is on the old register. -/
def Obligations.LinkingBranches : Prop :=
  ∀ (rs : Reg) (imm : BitVec 16) (s : State),
    let goesTo (c : Prop) (t : State) := ∃ g, (c → g = some (s.pc + 4 + BitVec.ofInt 32 (imm.toInt * 4))) ∧
      (¬ c → g = none) ∧ RetiresBranch s t g (oneReg 31 (s.pc + 8))
    decode (0x01#6 ++ rs ++ 0x10#5 ++ imm) = .ok (.bltzal rs imm) ∧
    Yields (.bltzal rs imm) s (goesTo ((s.x rs).toInt < 0)) ∧
    decode (0x01#6 ++ rs ++ 0x11#5 ++ imm) = .ok (.bgezal rs imm) ∧
    Yields (.bgezal rs imm) s (goesTo ((s.x rs).toInt ≥ 0))

/-- Rules R270 and R271: J and JAL; the region is that of the delay slot's address. -/
def Obligations.JumpsToATarget : Prop :=
  ∀ (target : BitVec 26) (s : State),
    let goal := BitVec.ofNat 32 ((s.pc + 4).toNat / 2 ^ 28 * 2 ^ 28 + target.toNat * 4)
    decode (0x02#6 ++ target) = .ok (.j target) ∧
    Yields (.j target) s (fun t => RetiresBranch s t (some goal) noReg) ∧
    decode (0x03#6 ++ target) = .ok (.jal target) ∧
    Yields (.jal target) s (fun t => RetiresBranch s t (some goal) (oneReg 31 (s.pc + 8)))

/-- Rules R211 and R212: JR and JALR, to whatever word the register holds; a target that cannot be fetched excepts at its
own fetch, with EPC the target and BD 0. -/
def Obligations.JumpsToARegister : Prop :=
  (∀ (rs rt rd : Reg) (sh : BitVec 5) (s : State),
    decode (0x00#6 ++ rs ++ rt ++ rd ++ sh ++ 0x08#6) = .ok (.jr rs) ∧
    Yields (.jr rs) s (fun t => RetiresBranch s t (some (s.x rs)) noReg) ∧
    decode (0x00#6 ++ rs ++ rt ++ rd ++ sh ++ 0x09#6) = .ok (.jalr rd rs) ∧
    Yields (.jalr rd rs) s (fun t => RetiresBranch s t (some (s.x rs)) (oneReg rd (s.pc + 8)))) ∧
  ∀ s : State, s.sampleLines.interruptTaken = false → s.bd = false →
    (s.pc.toNat % 4 ≠ 0 ∨ Protected s s.pc → ∃ t, step s = .next t ∧ t.lastStep = some (.excepted 4) ∧
      t.cop0.epc = s.pc ∧ t.cop0.badVaddr = s.pc ∧ t.cop0.cause.getLsbD 31 = false) ∧
    (s.pc.toNat % 4 = 0 → ¬ Protected s s.pc → Unmapped s.cfg s.pc 4 → ∃ t, step s = .next t ∧
      t.lastStep = some (.excepted 6) ∧ t.cop0.epc = s.pc ∧ t.cop0.cause.getLsbD 31 = false)

/-! ### The memory bus (spec/20_memory.md) -/

/-- Rule R107: a region table of this hardware. That the cache-control window's interval is among the disjoint ones is
the model's reading, log entry 9; that no region need end by 0x20000000 is its choice, log entry 14. -/
def Obligations.ValidRegionTables : Prop :=
  ∀ c : Config, c.valid = true ↔
    (∀ r ∈ c.intervals, r.base % 4 = 0 ∧ r.size % 4 = 0) ∧
    c.intervals.Pairwise (fun p q => ∀ a, ¬ (Inside p a ∧ Inside q a))

/-- Rules R101 to R104 and R108: which byte a virtual address reaches. That a table may hold a region at physical
0x20000000 or above, which user addresses then match, is the model's choice, log entry 14. -/
def Obligations.AddressTranslation : Prop :=
  ∀ (c : Config) (a : Word) (l : Loc), c.valid = true →
    (translate c a = some l ↔
      (a.toNat < 0x80000000 ∧ MatchesPhysical c a.toNat l) ∨
      (0x80000000 ≤ a.toNat ∧ a.toNat < 0xA0000000 ∧ MatchesPhysical c (a.toNat - 0x80000000) l) ∨
      (0xA0000000 ≤ a.toNat ∧ a.toNat < 0xC0000000 ∧ MatchesPhysical c (a.toNat - 0xA0000000) l) ∨
      (0xC0000000 ≤ a.toNat ∧ Inside c.cacheControl a.toNat ∧
        l = ⟨.cacheControl, a.toNat - c.cacheControl.base⟩))

/-- Rule R116: the two kernel segments and the user segment reach the same bytes; a byte stored at a segment-A address
reads back at its segment-B alias. -/
def Obligations.SegmentsAlias : Prop :=
  ∀ (c : Config) (a : Word), 0x80000000 ≤ a.toNat → a.toNat < 0xA0000000 →
    translate c (a + 0x20000000) = translate c a ∧ translate c (a - 0x80000000) = translate c a ∧
    ∀ (rt rs : Reg) (imm : BitVec 16) (s t : State) (l : Loc), s.cfg = c → effectiveAddress s rs imm = a →
      ¬ Protected s a → ¬ Isolated s → translate c a = some l → l.writable → exec (.sb rt rs imm) s = .next t →
      ∃ l', translate c (a + 0x20000000) = some l' ∧ t.byteAt l' = (s.x rt).setWidth 8

/-- Rules R313, R314 and R316 to R318: LB, LBU, LH, LHU and LW: what they write, delayed, and when they except or are
refused. -/
def Obligations.Loads : Prop :=
  (∀ (rt rs : Reg) (imm : BitVec 16),
    decode (0x20#6 ++ rs ++ rt ++ imm) = .ok (.lb rt rs imm) ∧
    decode (0x21#6 ++ rs ++ rt ++ imm) = .ok (.lh rt rs imm) ∧
    decode (0x23#6 ++ rs ++ rt ++ imm) = .ok (.lw rt rs imm) ∧
    decode (0x24#6 ++ rs ++ rt ++ imm) = .ok (.lbu rt rs imm) ∧
    decode (0x25#6 ++ rs ++ rt ++ imm) = .ok (.lhu rt rs imm)) ∧
  (∀ (rt rs : Reg) (imm : BitVec 16) (s : State),
    let ea := effectiveAddress s rs imm
    ¬ Protected s ea → ¬ Isolated s →
    (∀ l0, Located s.cfg ea [l0] → ∃ b0 u, ReadsBytes s [l0] [b0] u ∧
      Yields (.lb rt rs imm) s (fun t => RetiresLoading u t rt (b0.signExtend 32)) ∧
      Yields (.lbu rt rs imm) s (fun t => RetiresLoading u t rt (b0.setWidth 32))) ∧
    (∀ l0 l1, ea.toNat % 2 = 0 → Located s.cfg ea [l0, l1] → ∃ b0 b1 u, ReadsBytes s [l0, l1] [b0, b1] u ∧
      Yields (.lh rt rs imm) s (fun t => RetiresLoading u t rt ((b1 ++ b0).signExtend 32)) ∧
      Yields (.lhu rt rs imm) s (fun t => RetiresLoading u t rt ((b1 ++ b0).setWidth 32))) ∧
    (∀ l0 l1 l2 l3, ea.toNat % 4 = 0 → Located s.cfg ea [l0, l1, l2, l3] → ∃ b0 b1 b2 b3 u,
      ReadsBytes s [l0, l1, l2, l3] [b0, b1, b2, b3] u ∧
      Yields (.lw rt rs imm) s (fun t => RetiresLoading u t rt (b3 ++ b2 ++ b1 ++ b0)))) ∧
  ∀ (i : Instr) (n : Nat) (rs : Reg) (imm : BitVec 16) (s : State), PlainLoad i n rs imm →
    let ea := effectiveAddress s rs imm
    (ea.toNat % n ≠ 0 ∨ Protected s ea → Traps i s 4 none (some ea)) ∧
    (ea.toNat % n = 0 → ¬ Protected s ea → Isolated s → exec i s = .refused .isolatedCacheLoad) ∧
    (ea.toNat % n = 0 → ¬ Protected s ea → ¬ Isolated s → Unmapped s.cfg ea n → Traps i s 7 none none)

/-- Rules R315 and R319: LWL and LWR: the bytes they merge into the visible register, for each of the four places in the
word, and when they except or are refused. -/
def Obligations.PartialLoads : Prop :=
  ∀ (rt rs : Reg) (imm : BitVec 16) (s : State),
    let ea := effectiveAddress s rs imm
    let al := ea - BitVec.ofNat 32 (ea.toNat % 4)
    let old := s.x rt
    decode (0x22#6 ++ rs ++ rt ++ imm) = .ok (.lwl rt rs imm) ∧
    decode (0x26#6 ++ rs ++ rt ++ imm) = .ok (.lwr rt rs imm) ∧
    (Protected s ea → Traps (.lwl rt rs imm) s 4 none (some ea) ∧ Traps (.lwr rt rs imm) s 4 none (some ea)) ∧
    (¬ Protected s ea → Isolated s →
      exec (.lwl rt rs imm) s = .refused .isolatedCacheLoad ∧
      exec (.lwr rt rs imm) s = .refused .isolatedCacheLoad) ∧
    (¬ Protected s ea → ¬ Isolated s →
      (Unmapped s.cfg al 4 → Traps (.lwl rt rs imm) s 7 none none ∧ Traps (.lwr rt rs imm) s 7 none none) ∧
      ∀ l0 l1 l2 l3, Located s.cfg al [l0, l1, l2, l3] → ∃ b0 b1 b2 b3 u,
        ReadsBytes s [l0, l1, l2, l3] [b0, b1, b2, b3] u ∧
        Yields (.lwl rt rs imm) s (fun t =>
          (ea.toNat % 4 = 0 → RetiresLoading u t rt (b0 ++ old.extractLsb' 0 24)) ∧
          (ea.toNat % 4 = 1 → RetiresLoading u t rt (b1 ++ b0 ++ old.extractLsb' 0 16)) ∧
          (ea.toNat % 4 = 2 → RetiresLoading u t rt (b2 ++ b1 ++ b0 ++ old.extractLsb' 0 8)) ∧
          (ea.toNat % 4 = 3 → RetiresLoading u t rt (b3 ++ b2 ++ b1 ++ b0))) ∧
        Yields (.lwr rt rs imm) s (fun t =>
          (ea.toNat % 4 = 0 → RetiresLoading u t rt (b3 ++ b2 ++ b1 ++ b0)) ∧
          (ea.toNat % 4 = 1 → RetiresLoading u t rt (old.extractLsb' 24 8 ++ b3 ++ b2 ++ b1)) ∧
          (ea.toNat % 4 = 2 → RetiresLoading u t rt (old.extractLsb' 16 16 ++ b3 ++ b2)) ∧
          (ea.toNat % 4 = 3 → RetiresLoading u t rt (old.extractLsb' 8 24 ++ b3))))

/-- Rules R320, R321 and R323: SB, SH and SW: the bytes they write, and when they except or are discarded. -/
def Obligations.Stores : Prop :=
  (∀ (rt rs : Reg) (imm : BitVec 16),
    decode (0x28#6 ++ rs ++ rt ++ imm) = .ok (.sb rt rs imm) ∧
    decode (0x29#6 ++ rs ++ rt ++ imm) = .ok (.sh rt rs imm) ∧
    decode (0x2B#6 ++ rs ++ rt ++ imm) = .ok (.sw rt rs imm)) ∧
  ∀ (i : Instr) (n : Nat) (rt rs : Reg) (imm : BitVec 16) (s : State), PlainStore i n rt rs imm →
    let ea := effectiveAddress s rs imm
    (ea.toNat % n ≠ 0 ∨ Protected s ea → Traps i s 5 none (some ea)) ∧
    (ea.toNat % n = 0 → ¬ Protected s ea →
      (Isolated s → Yields i s (RetiresQuietly s)) ∧
      (¬ Isolated s → Unmapped s.cfg ea n → Traps i s 7 none none) ∧
      (¬ Isolated s → ∀ ls, ls.length = n → Located s.cfg ea ls →
        ∃ u, StoresBytes s ls ((List.range n).map fun j => (s.x rt).extractLsb' (8 * j) 8) u ∧
          Yields i s (RetiresQuietly u)))

/-- Rules R322 and R324: SWL stores the high `n + 1` bytes of `rt` at `al .. ea`, SWR the low `4 - n` bytes at
`ea .. al + 3`, where `n = ea mod 4`; only those bytes are translated. -/
def Obligations.PartialStores : Prop :=
  ∀ (rt rs : Reg) (imm : BitVec 16) (s : State),
    let ea := effectiveAddress s rs imm
    let n := ea.toNat % 4
    let al := ea - BitVec.ofNat 32 n
    let v := s.x rt
    decode (0x2A#6 ++ rs ++ rt ++ imm) = .ok (.swl rt rs imm) ∧
    decode (0x2E#6 ++ rs ++ rt ++ imm) = .ok (.swr rt rs imm) ∧
    (Protected s ea → Traps (.swl rt rs imm) s 5 none (some ea) ∧ Traps (.swr rt rs imm) s 5 none (some ea)) ∧
    (¬ Protected s ea → Isolated s →
      Yields (.swl rt rs imm) s (RetiresQuietly s) ∧ Yields (.swr rt rs imm) s (RetiresQuietly s)) ∧
    (¬ Protected s ea → ¬ Isolated s →
      (Unmapped s.cfg al (n + 1) → Traps (.swl rt rs imm) s 7 none none) ∧
      (∀ ls, ls.length = n + 1 → Located s.cfg al ls →
        ∃ u, StoresBytes s ls ((List.range (n + 1)).map fun j => v.extractLsb' (8 * (3 - n + j)) 8) u ∧
          Yields (.swl rt rs imm) s (RetiresQuietly u)) ∧
      (Unmapped s.cfg ea (4 - n) → Traps (.swr rt rs imm) s 7 none none) ∧
      (∀ ls, ls.length = 4 - n → Located s.cfg ea ls →
        ∃ u, StoresBytes s ls ((List.range (4 - n)).map fun j => v.extractLsb' (8 * j) 8) u ∧
          Yields (.swr rt rs imm) s (RetiresQuietly u)))

/-- Rule R325: SWR at an unaligned address and SWL three bytes on, in either order, store the four bytes of `rt`
little-endian and no other byte, where the bytes are in regions that store. -/
def Obligations.UnalignedStoreByAPair : Prop :=
  ∀ (rt rs : Reg) (imm imm' : BitVec 16) (s m t : State),
    let ea := effectiveAddress s rs imm
    ea.toNat % 4 ≠ 0 → effectiveAddress s rs imm' = ea + 3 → Settled s rs → Settled s rt →
    ¬ Protected s ea → ¬ Protected s (ea + 3) → ¬ Isolated s →
    (∀ j, j < 4 → ∃ l, translate s.cfg (ea + BitVec.ofNat 32 j) = some l ∧ l.writable) →
    ((exec (.swr rt rs imm) s = .next m ∧ exec (.swl rt rs imm') m = .next t) ∨
      (exec (.swl rt rs imm') s = .next m ∧ exec (.swr rt rs imm) m = .next t)) →
    (∀ j, j < 4 → ∀ l, translate s.cfg (ea + BitVec.ofNat 32 j) = some l →
      t.byteAt l = (s.x rt).extractLsb' (8 * j) 8) ∧
    MemKeptBut s t (StoredAt s ea 4)

/-- Rule R326: LWR, one instruction, LWL assembles the unaligned word; back to back, the second load merges into the old
register and the first load's bytes are lost. -/
def Obligations.UnalignedLoadByAPair : Prop :=
  ∀ (rt rs : Reg) (imm imm' : BitVec 16) (s : State),
    let ea := effectiveAddress s rs imm
    rt ≠ 0 → rt ≠ rs → ea.toNat % 4 ≠ 0 → effectiveAddress s rs imm' = ea + 3 → Settled s rs → Settled s rt →
    ¬ Protected s ea → ¬ Protected s (ea + 3) → ¬ Isolated s →
    (∀ j, j < 8 → ∃ l, translate s.cfg (ea - BitVec.ofNat 32 (ea.toNat % 4) + BitVec.ofNat 32 j) = some l ∧
      l.inStorage) →
    ∃ (m0 m1 t d : State) (b0 b1 b2 b3 : Byte),
      exec (.lwr rt rs imm) s = .next m0 ∧ exec (.sll 0 0 0) m0 = .next m1 ∧ exec (.lwl rt rs imm') m1 = .next t ∧
      (∀ j, j < 4 → ∀ l, translate s.cfg (ea + BitVec.ofNat 32 j) = some l →
        s.byteAt l = (b3 ++ b2 ++ b1 ++ b0 : Word).extractLsb' (8 * j) 8) ∧
      t.regs.stage2[rt.toNat] = (b3 ++ b2 ++ b1 ++ b0 : Word) ∧
      exec (.lwl rt rs imm') m0 = .next d ∧
      ∀ k, k < 32 → d.regs.stage2[rt.toNat].getLsbD k =
        if 8 * (4 - ea.toNat % 4) ≤ k then (b3 ++ b2 ++ b1 ++ b0 : Word).getLsbD k else (s.x rt).getLsbD k

/-- Rule R134: a word stored is the word every later fetch of its bytes reads. -/
def Obligations.StoredWordIsFetched : Prop :=
  ∀ (rt rs : Reg) (imm : BitVec 16) (s t u : State),
    let ea := effectiveAddress s rs imm
    exec (.sw rt rs imm) s = .next t → ea.toNat % 4 = 0 → ¬ Protected s ea → ¬ Isolated s →
    (∀ j, j < 4 → ∃ l, translate s.cfg (ea + BitVec.ofNat 32 j) = some l ∧ l.writable) →
    u.mem = t.mem → u.cfg = t.cfg → ¬ Protected u ea → fetchWord ea u = .done (s.x rt) u

/-- The frame of memory: an instruction that is no store leaves every byte alone, and a store leaves every byte alone
but those at the addresses it stores to. -/
def Obligations.MemoryFrame : Prop :=
  (∀ i s t, exec i s = .next t → ¬ StoreInstr i → MemKept s t) ∧
  ∀ (rt rs : Reg) (imm : BitVec 16) (s t : State),
    let ea := effectiveAddress s rs imm
    let n := ea.toNat % 4
    (exec (.sb rt rs imm) s = .next t → MemKeptBut s t (StoredAt s ea 1)) ∧
    (exec (.sh rt rs imm) s = .next t → MemKeptBut s t (StoredAt s ea 2)) ∧
    (exec (.sw rt rs imm) s = .next t → MemKeptBut s t (StoredAt s ea 4)) ∧
    (exec (.swc2 rt rs imm) s = .next t → MemKeptBut s t (StoredAt s ea 4)) ∧
    (exec (.swl rt rs imm) s = .next t → MemKeptBut s t (StoredAt s (ea - BitVec.ofNat 32 n) (n + 1))) ∧
    (exec (.swr rt rs imm) s = .next t → MemKeptBut s t (StoredAt s ea (4 - n)))

/-- No step changes the boot ROM, under a region table of this hardware (rules R114, R107). -/
def Obligations.StepKeepsTheBootRom : Prop :=
  ∀ s t, s.cfg.valid = true → step s = .next t →
    t.cfg = s.cfg ∧ ∀ a, Inside s.cfg.bootRom a → Memory.byte t.mem a = Memory.byte s.mem a

/-! ### Coprocessors (spec/44_coprocessor.md) -/

/-- Rule R345, with the values of rules R65 to R69: MFC0, delayed. -/
def Obligations.MoveFromCop0 : Prop :=
  (∀ (rt rd : Reg) (b : BitVec 11), decode (0x10#6 ++ 0x00#5 ++ rt ++ rd ++ b) = .ok (.mfc0 rt rd)) ∧
  (∀ rt rd s, ¬ Cop0Usable s → Traps (.mfc0 rt rd) s 11 (some 0) none) ∧
  ∀ (rt : Reg) (s : State), Cop0Usable s →
    Yields (.mfc0 rt 3) s (fun t => RetiresLoading s t rt s.cop0.bpc) ∧
    Yields (.mfc0 rt 5) s (fun t => RetiresLoading s t rt s.cop0.bda) ∧
    Yields (.mfc0 rt 7) s (fun t => RetiresLoading s t rt s.cop0.dcic) ∧
    Yields (.mfc0 rt 8) s (fun t => RetiresLoading s t rt s.cop0.badVaddr) ∧
    Yields (.mfc0 rt 9) s (fun t => RetiresLoading s t rt s.cop0.bdam) ∧
    Yields (.mfc0 rt 11) s (fun t => RetiresLoading s t rt s.cop0.bpcm) ∧
    Yields (.mfc0 rt 12) s (fun t => RetiresLoading s t rt s.cop0.sr) ∧
    Yields (.mfc0 rt 13) s (fun t => RetiresLoading s t rt s.cop0.cause) ∧
    Yields (.mfc0 rt 14) s (fun t => RetiresLoading s t rt s.cop0.epc) ∧
    Yields (.mfc0 rt 15) s (fun t => RetiresLoading s t rt 0x00000002) ∧
    ∀ rd : Reg, rd = 6 ∨ rd.toNat ≤ 2 ∨ rd = 4 ∨ rd = 10 ∨ 16 ≤ rd.toNat →
      Yields (.mfc0 rt rd) s (fun t => RetiresDrawing s t rt)

/-- Rule R346: MTC0, at once, for every register number. -/
def Obligations.MoveToCop0 : Prop :=
  (∀ (rt rd : Reg) (b : BitVec 11), decode (0x10#6 ++ 0x04#5 ++ rt ++ rd ++ b) = .ok (.mtc0 rt rd)) ∧
  (∀ rt rd s, ¬ Cop0Usable s → Traps (.mtc0 rt rd) s 11 (some 0) none) ∧
  ∀ (rt : Reg) (s : State), Cop0Usable s →
    Yields (.mtc0 rt 12) s (fun t => RetiresCop0 s t { s.cop0 with sr := s.x rt &&& 0xF27FFF3F }) ∧
    Yields (.mtc0 rt 13) s (fun t => RetiresCop0 s t { s.cop0 with cause := t.cop0.cause } ∧
      ∀ k, k < 32 → t.cop0.cause.getLsbD k =
        if k = 8 ∨ k = 9 then (s.x rt).getLsbD k else s.cop0.cause.getLsbD k) ∧
    Yields (.mtc0 rt 3) s (fun t => RetiresCop0 s t { s.cop0 with bpc := s.x rt }) ∧
    Yields (.mtc0 rt 5) s (fun t => RetiresCop0 s t { s.cop0 with bda := s.x rt }) ∧
    Yields (.mtc0 rt 9) s (fun t => RetiresCop0 s t { s.cop0 with bdam := s.x rt }) ∧
    Yields (.mtc0 rt 11) s (fun t => RetiresCop0 s t { s.cop0 with bpcm := s.x rt }) ∧
    (s.x rt = 0 → Yields (.mtc0 rt 7) s fun t => RetiresCop0 s t { s.cop0 with dcic := 0 }) ∧
    (s.x rt ≠ 0 → exec (.mtc0 rt 7) s = .refused .debugNotModelled) ∧
    ∀ rd : Reg, rd.toNat ≤ 2 ∨ rd = 4 ∨ rd = 6 ∨ rd = 8 ∨ rd = 10 ∨ 14 ≤ rd.toNat →
      Yields (.mtc0 rt rd) s (fun t => RetiresCop0 s t s.cop0)

/-- Rule R343: every COP0 and COP2 instruction raises CpU with the coprocessor's number where its coprocessor is not
usable, before it reads anything, and never raises CpU where it is usable. -/
def Obligations.UnusableCoprocessorTraps : Prop :=
  ∀ i s,
    (CopInstr i 0 →
      (¬ Cop0Usable s → Traps i s 11 (some 0) none) ∧
      (Cop0Usable s → ∀ t, exec i s = .next t → t.lastStep ≠ some (.excepted 11))) ∧
    (CopInstr i 2 →
      (¬ Cop2Usable s → Traps i s 11 (some 2) none) ∧
      (Cop2Usable s → ∀ t, exec i s = .next t → t.lastStep ≠ some (.excepted 11)))

/-- Rules R347, R348, R350, R357 and R358: CFC0, CTC0, LWC0, SWC0, BC0F, BC0T, the COP0 functions other than RFE, BC2F,
BC2T and the GTE commands are refused wherever they are usable, and raise CpU elsewhere. -/
def Obligations.UnimplementedFunctionsAreRefused : Prop :=
  (∀ (rt rd : Reg) (b : BitVec 11),
    decode (0x10#6 ++ 0x02#5 ++ rt ++ rd ++ b) = .ok (.cfc0 rt rd) ∧
    decode (0x10#6 ++ 0x06#5 ++ rt ++ rd ++ b) = .ok (.ctc0 rt rd)) ∧
  (∀ (rs rt : Reg) (imm : BitVec 16),
    decode (0x30#6 ++ rs ++ rt ++ imm) = .ok (.lwc0 rt rs imm) ∧
    decode (0x38#6 ++ rs ++ rt ++ imm) = .ok (.swc0 rt rs imm)) ∧
  (∀ imm : BitVec 16,
    decode (0x10#6 ++ 0x08#5 ++ 0x00#5 ++ imm) = .ok (.bc0f imm) ∧
    decode (0x10#6 ++ 0x08#5 ++ 0x01#5 ++ imm) = .ok (.bc0t imm) ∧
    decode (0x12#6 ++ 0x08#5 ++ 0x00#5 ++ imm) = .ok (.bc2f imm) ∧
    decode (0x12#6 ++ 0x08#5 ++ 0x01#5 ++ imm) = .ok (.bc2t imm)) ∧
  (∀ cofun : BitVec 25, cofun.toNat % 64 ≠ 0x10 → decode (0x10#6 ++ 1#1 ++ cofun) = .ok (.cop0 cofun)) ∧
  (∀ cofun : BitVec 25, decode (0x12#6 ++ 1#1 ++ cofun) = .ok (.cop2 cofun)) ∧
  ∀ i s,
    (Unimplemented i 0 → (Cop0Usable s → exec i s = .refused .unimplemented) ∧
      (¬ Cop0Usable s → Traps i s 11 (some 0) none)) ∧
    (Unimplemented i 2 → (Cop2Usable s → exec i s = .refused .unimplemented) ∧
      (¬ Cop2Usable s → Traps i s 11 (some 2) none))

/-- Rule R344: every COP1, COP3, LWC1, LWC3, SWC1 and SWC3 word, whatever its other fields. -/
def Obligations.AbsentCoprocessors : Prop :=
  (∀ body : BitVec 26, decode (0x11#6 ++ body) = .ok (.cop1 body) ∧ decode (0x13#6 ++ body) = .ok (.cop3 body)) ∧
  (∀ (rs rt : Reg) (imm : BitVec 16),
    decode (0x31#6 ++ rs ++ rt ++ imm) = .ok (.lwc1 rt rs imm) ∧
    decode (0x33#6 ++ rs ++ rt ++ imm) = .ok (.lwc3 rt rs imm) ∧
    decode (0x39#6 ++ rs ++ rt ++ imm) = .ok (.swc1 rt rs imm) ∧
    decode (0x3B#6 ++ rs ++ rt ++ imm) = .ok (.swc3 rt rs imm)) ∧
  ∀ i z s, AbsentCop i z →
    (s.cop0.sr.getLsbD (28 + z.toNat) = false → Traps i s 11 (some z) none) ∧
    (s.cop0.sr.getLsbD (28 + z.toNat) = true → exec i s = .refused .noCoprocessor)

/-- Rules R351 to R354: MFC2 and CFC2, delayed; MTC2 and CTC2, at once. -/
def Obligations.MovesOfCop2 : Prop :=
  (∀ (rt rd : Reg) (b : BitVec 11),
    decode (0x12#6 ++ 0x00#5 ++ rt ++ rd ++ b) = .ok (.mfc2 rt rd) ∧
    decode (0x12#6 ++ 0x02#5 ++ rt ++ rd ++ b) = .ok (.cfc2 rt rd) ∧
    decode (0x12#6 ++ 0x04#5 ++ rt ++ rd ++ b) = .ok (.mtc2 rt rd) ∧
    decode (0x12#6 ++ 0x06#5 ++ rt ++ rd ++ b) = .ok (.ctc2 rt rd)) ∧
  (∀ i, (∃ rt rd, i = .mfc2 rt rd ∨ i = .cfc2 rt rd ∨ i = .mtc2 rt rd ∨ i = .ctc2 rt rd) →
    ∀ s, ¬ Cop2Usable s → Traps i s 11 (some 2) none) ∧
  ∀ (rt rd : Reg) (s : State), Cop2Usable s →
    Yields (.mfc2 rt rd) s (fun t => RetiresLoading s t rt s.cop2d[rd.toNat]) ∧
    Yields (.cfc2 rt rd) s (fun t => RetiresLoading s t rt s.cop2c[rd.toNat]) ∧
    Yields (.mtc2 rt rd) s (fun t => RetiresCop2 s t (onlyReg rd (s.x rt)) noReg) ∧
    Yields (.ctc2 rt rd) s (fun t => RetiresCop2 s t noReg (onlyReg rd (s.x rt)))

/-- Rules R355 and R356: LWC2 and SWC2; the usability check comes first. -/
def Obligations.LoadAndStoreOfCop2 : Prop :=
  ∀ (rt rs : Reg) (imm : BitVec 16) (s : State),
    let ea := effectiveAddress s rs imm
    decode (0x32#6 ++ rs ++ rt ++ imm) = .ok (.lwc2 rt rs imm) ∧
    decode (0x3A#6 ++ rs ++ rt ++ imm) = .ok (.swc2 rt rs imm) ∧
    (¬ Cop2Usable s → Traps (.lwc2 rt rs imm) s 11 (some 2) none ∧ Traps (.swc2 rt rs imm) s 11 (some 2) none) ∧
    (Cop2Usable s →
      (ea.toNat % 4 ≠ 0 ∨ Protected s ea →
        Traps (.lwc2 rt rs imm) s 4 none (some ea) ∧ Traps (.swc2 rt rs imm) s 5 none (some ea)) ∧
      (ea.toNat % 4 = 0 → ¬ Protected s ea →
        (Isolated s → exec (.lwc2 rt rs imm) s = .refused .isolatedCacheLoad ∧
          Yields (.swc2 rt rs imm) s (RetiresQuietly s)) ∧
        (¬ Isolated s → Unmapped s.cfg ea 4 →
          Traps (.lwc2 rt rs imm) s 7 none none ∧ Traps (.swc2 rt rs imm) s 7 none none) ∧
        (¬ Isolated s → ∀ l0 l1 l2 l3, Located s.cfg ea [l0, l1, l2, l3] →
          (∃ b0 b1 b2 b3 u, ReadsBytes s [l0, l1, l2, l3] [b0, b1, b2, b3] u ∧
            Yields (.lwc2 rt rs imm) s (fun t => RetiresCop2 u t (onlyReg rt (b3 ++ b2 ++ b1 ++ b0)) noReg)) ∧
          (∃ u, StoresBytes s [l0, l1, l2, l3]
              ((List.range 4).map fun j => s.cop2d[rt.toNat].extractLsb' (8 * j) 8) u ∧
            Yields (.swc2 rt rs imm) s (RetiresQuietly u)))))

/-! ### State, reset and the host (spec/10_state.md, spec/70_reset_and_hazards.md) -/

/-- Rules R41 to R44, R48 and R49: reads, both writes and the tick of the register file, with its load delay. -/
def Obligations.RegisterFile : Prop :=
  ∀ (f : RegFile) (r k : Reg) (v w : Word),
    f.get 0 = 0 ∧ (r ≠ 0 → f.get r = f.stage3[r.toNat]) ∧
    f.set 0 v = f ∧ f.setLate 0 v = f ∧
    (r ≠ 0 →
      (f.set r v).stage1[k.toNat] = (if k = r then v else f.stage1[k.toNat]) ∧
      (f.set r v).stage2[k.toNat] = (if k = r then v else f.stage2[k.toNat]) ∧
      (f.set r v).stage3[k.toNat] = (if k = r then v else f.stage3[k.toNat]) ∧
      (f.setLate r v).stage1[k.toNat] = (if k = r then v else f.stage1[k.toNat]) ∧
      (f.setLate r v).stage2 = f.stage2 ∧ (f.setLate r v).stage3 = f.stage3 ∧
      (f.setLate r v).tick.get r = f.stage2[r.toNat] ∧ (f.setLate r v).tick.tick.get r = v ∧
      ((f.setLate r v).tick.set r w).tick.get r = w ∧ ((f.setLate r v).tick.set r w).tick.tick.get r = w ∧
      ((f.setLate r v).tick.setLate r w).tick.get r = v ∧
      ((f.setLate r v).tick.setLate r w).tick.tick.get r = w) ∧
    f.tick.stage3 = f.stage2 ∧ f.tick.stage2 = f.stage1 ∧ f.tick.stage1 = f.stage1

/-- Rules R450 and R451: reset, for every draw of the values it leaves unspecified; a bad region table is refused. -/
def Obligations.ResetLeaves : Prop :=
  ∀ (d : ResetDraws) (s : State),
    (s.cfg.valid = false → applyReset d s = .refused .badConfiguration) ∧
    (s.cfg.valid = true → ∃ t, applyReset d s = .next t ∧
      (∀ r : Reg, t.regs.stage1[r.toNat] = 0 ∧ t.regs.stage2[r.toNat] = 0 ∧ t.regs.stage3[r.toNat] = 0) ∧
      t.hi = d.hi ∧ t.lo = d.lo ∧
      (∀ k, k < 32 → t.cop0.sr.getLsbD k =
        if k = 22 then true
        else if k = 0 ∨ k = 1 ∨ k = 6 ∨ k = 7 ∨ k = 23 ∨ k = 24 ∨ k = 26 ∨ k = 27 then false
        else d.sr.getLsbD k) ∧
      (∀ k, k < 32 → ¬ (10 ≤ k ∧ k ≤ 15) → t.cop0.cause.getLsbD k =
        if (2 ≤ k ∧ k ≤ 6) ∨ k = 8 ∨ k = 9 ∨ k = 28 ∨ k = 29 ∨ k = 31 then d.cause.getLsbD k else false) ∧
      t.cop0.epc = d.epc ∧ t.cop0.badVaddr = d.badVaddr ∧ t.cop0.bpc = d.bpc ∧ t.cop0.bda = d.bda ∧
      t.cop0.bdam = d.bdam ∧ t.cop0.bpcm = d.bpcm ∧ t.cop0.dcic = d.dcic ∧
      t.cop2d = d.cop2d ∧ t.cop2c = d.cop2c ∧
      t.pc = 0xBFC00000 ∧ t.npc = 0xBFC00004 ∧ t.bd = false ∧
      t.mem = s.mem ∧ t.cfg = s.cfg ∧ t.intLines = s.intLines ∧ t.lineInputs = s.lineInputs ∧
      t.ioAnswers = s.ioAnswers ∧ t.ioTrace = s.ioTrace)

/-- The state after reset meets the invariant. Its values for what rule R450 leaves unspecified are log entry 1's. -/
def Obligations.ResetMeetsTheInvariant : Prop := Machine.Inv State.reset

/-- Every step keeps the invariant: canonical memory, a zero $0 in every stage, equal stages 1 and 2 (rule R47), the
read-0 bits of SR and CAUSE, and `npc = pc + 4` outside a delay slot. -/
def Obligations.StepKeepsTheInvariant : Prop := ∀ s t, Machine.Inv s → step s = .next t → Machine.Inv t

/-- User mode without CU0 cannot learn BadVaddr, EPC or a debug register: two states that differ only there step alike
(rules R430, R345). -/
def Obligations.UserModeCannotReadCop0 : Prop :=
  ∀ s t, SameButPrivileged s t → s.cop0.sr.getLsbD 1 = true → s.cop0.sr.getLsbD 28 = false →
    (∀ s', step s = .next s' → ∃ t', step t = .next t' ∧ SameButPrivileged s' t') ∧
    ∀ r, step s = .refused r → step t = .refused r

/-- A snapshot holds the register file, the program counters, `bd`, HI, LO, all 32 COP0 registers and both COP2 banks, and
loading it restores them into any state and leaves memory, configuration, lines and router alone (rules R90 to R92, R360).
That the COP0 words without storage are the draws at their numbers, and are not restored, is log entry 10's. -/
def Obligations.SnapshotRestores : Prop :=
  ∀ (d : Vector Word 32) (s u : State),
    let p := saveState d s
    (p.regs = s.regs ∧ p.pc = s.pc ∧ p.npc = s.npc ∧ p.bd = s.bd ∧ p.hi = s.hi ∧ p.lo = s.lo ∧
      p.cop2d = s.cop2d ∧ p.cop2c = s.cop2c) ∧
    (p.cop0[3] = s.cop0.bpc ∧ p.cop0[5] = s.cop0.bda ∧ p.cop0[7] = s.cop0.dcic ∧ p.cop0[8] = s.cop0.badVaddr ∧
      p.cop0[9] = s.cop0.bdam ∧ p.cop0[11] = s.cop0.bpcm ∧ p.cop0[12] = s.cop0.sr ∧ p.cop0[13] = s.cop0.cause ∧
      p.cop0[14] = s.cop0.epc ∧ p.cop0[15] = 0x00000002 ∧
      ∀ r : Reg, r = 6 ∨ r.toNat ≤ 2 ∨ r = 4 ∨ r = 10 ∨ 16 ≤ r.toNat → p.cop0[r.toNat] = d[r.toNat]) ∧
    loadState p u =
      { u with
        regs := s.regs, pc := s.pc, npc := s.npc, bd := s.bd, hi := s.hi, lo := s.lo
        cop0 := s.cop0, cop2d := s.cop2d, cop2c := s.cop2c }

/-- Rule R130: a probe answers the stored byte in every mode, and Unsupported where no region or the I/O window is. -/
def Obligations.ProbeReadsStorageOnly : Prop :=
  ∀ (a : Word) (s : State),
    (translate s.cfg a = none → probe a s = none) ∧
    ∀ l, translate s.cfg a = some l →
      (l.region = .ioWindow → probe a s = none) ∧ (l.region ≠ .ioWindow → probe a s = some (s.byteAt l))
end

