-- ==== Sys2Proof/Laws/State.lean ====
section
/-! SUPPORT. One lemma per field per update of the state, so that no proof unfolds a record update. -/

namespace Sys2Proof.Machine

variable (s : State)

@[simp] theorem State.setX_regs (r : Reg) (v : Word) : (s.setX r v).regs = s.regs.set r v := rfl
@[simp] theorem State.setX_pc (r : Reg) (v : Word) : (s.setX r v).pc = s.pc := rfl
@[simp] theorem State.setX_npc (r : Reg) (v : Word) : (s.setX r v).npc = s.npc := rfl
@[simp] theorem State.setX_bd (r : Reg) (v : Word) : (s.setX r v).bd = s.bd := rfl
@[simp] theorem State.setX_hi (r : Reg) (v : Word) : (s.setX r v).hi = s.hi := rfl
@[simp] theorem State.setX_lo (r : Reg) (v : Word) : (s.setX r v).lo = s.lo := rfl
@[simp] theorem State.setX_cop0 (r : Reg) (v : Word) : (s.setX r v).cop0 = s.cop0 := rfl
@[simp] theorem State.setX_cop2d (r : Reg) (v : Word) : (s.setX r v).cop2d = s.cop2d := rfl
@[simp] theorem State.setX_cop2c (r : Reg) (v : Word) : (s.setX r v).cop2c = s.cop2c := rfl
@[simp] theorem State.setX_mem (r : Reg) (v : Word) : (s.setX r v).mem = s.mem := rfl
@[simp] theorem State.setX_cfg (r : Reg) (v : Word) : (s.setX r v).cfg = s.cfg := rfl
@[simp] theorem State.setX_intLines (r : Reg) (v : Word) : (s.setX r v).intLines = s.intLines := rfl
@[simp] theorem State.setX_lineInputs (r : Reg) (v : Word) : (s.setX r v).lineInputs = s.lineInputs := rfl
@[simp] theorem State.setX_ioAnswers (r : Reg) (v : Word) : (s.setX r v).ioAnswers = s.ioAnswers := rfl
@[simp] theorem State.setX_ioTrace (r : Reg) (v : Word) : (s.setX r v).ioTrace = s.ioTrace := rfl
@[simp] theorem State.setX_draws (r : Reg) (v : Word) : (s.setX r v).draws = s.draws := rfl
@[simp] theorem State.setX_lastStep (r : Reg) (v : Word) : (s.setX r v).lastStep = s.lastStep := rfl

@[simp] theorem State.setXLate_regs (r : Reg) (v : Word) : (s.setXLate r v).regs = s.regs.setLate r v := rfl
@[simp] theorem State.setXLate_pc (r : Reg) (v : Word) : (s.setXLate r v).pc = s.pc := rfl
@[simp] theorem State.setXLate_npc (r : Reg) (v : Word) : (s.setXLate r v).npc = s.npc := rfl
@[simp] theorem State.setXLate_bd (r : Reg) (v : Word) : (s.setXLate r v).bd = s.bd := rfl
@[simp] theorem State.setXLate_hi (r : Reg) (v : Word) : (s.setXLate r v).hi = s.hi := rfl
@[simp] theorem State.setXLate_lo (r : Reg) (v : Word) : (s.setXLate r v).lo = s.lo := rfl
@[simp] theorem State.setXLate_cop0 (r : Reg) (v : Word) : (s.setXLate r v).cop0 = s.cop0 := rfl
@[simp] theorem State.setXLate_cop2d (r : Reg) (v : Word) : (s.setXLate r v).cop2d = s.cop2d := rfl
@[simp] theorem State.setXLate_cop2c (r : Reg) (v : Word) : (s.setXLate r v).cop2c = s.cop2c := rfl
@[simp] theorem State.setXLate_mem (r : Reg) (v : Word) : (s.setXLate r v).mem = s.mem := rfl
@[simp] theorem State.setXLate_cfg (r : Reg) (v : Word) : (s.setXLate r v).cfg = s.cfg := rfl
@[simp] theorem State.setXLate_intLines (r : Reg) (v : Word) : (s.setXLate r v).intLines = s.intLines := rfl
@[simp] theorem State.setXLate_lineInputs (r : Reg) (v : Word) : (s.setXLate r v).lineInputs = s.lineInputs := rfl
@[simp] theorem State.setXLate_ioAnswers (r : Reg) (v : Word) : (s.setXLate r v).ioAnswers = s.ioAnswers := rfl
@[simp] theorem State.setXLate_ioTrace (r : Reg) (v : Word) : (s.setXLate r v).ioTrace = s.ioTrace := rfl
@[simp] theorem State.setXLate_draws (r : Reg) (v : Word) : (s.setXLate r v).draws = s.draws := rfl
@[simp] theorem State.setXLate_lastStep (r : Reg) (v : Word) : (s.setXLate r v).lastStep = s.lastStep := rfl

@[simp] theorem State.setHiLo_regs (h l : Word) : (s.setHiLo h l).regs = s.regs := rfl
@[simp] theorem State.setHiLo_pc (h l : Word) : (s.setHiLo h l).pc = s.pc := rfl
@[simp] theorem State.setHiLo_npc (h l : Word) : (s.setHiLo h l).npc = s.npc := rfl
@[simp] theorem State.setHiLo_bd (h l : Word) : (s.setHiLo h l).bd = s.bd := rfl
@[simp] theorem State.setHiLo_hi (h l : Word) : (s.setHiLo h l).hi = h := rfl
@[simp] theorem State.setHiLo_lo (h l : Word) : (s.setHiLo h l).lo = l := rfl
@[simp] theorem State.setHiLo_cop0 (h l : Word) : (s.setHiLo h l).cop0 = s.cop0 := rfl
@[simp] theorem State.setHiLo_cop2d (h l : Word) : (s.setHiLo h l).cop2d = s.cop2d := rfl
@[simp] theorem State.setHiLo_cop2c (h l : Word) : (s.setHiLo h l).cop2c = s.cop2c := rfl
@[simp] theorem State.setHiLo_mem (h l : Word) : (s.setHiLo h l).mem = s.mem := rfl
@[simp] theorem State.setHiLo_cfg (h l : Word) : (s.setHiLo h l).cfg = s.cfg := rfl
@[simp] theorem State.setHiLo_intLines (h l : Word) : (s.setHiLo h l).intLines = s.intLines := rfl
@[simp] theorem State.setHiLo_lineInputs (h l : Word) : (s.setHiLo h l).lineInputs = s.lineInputs := rfl
@[simp] theorem State.setHiLo_ioAnswers (h l : Word) : (s.setHiLo h l).ioAnswers = s.ioAnswers := rfl
@[simp] theorem State.setHiLo_ioTrace (h l : Word) : (s.setHiLo h l).ioTrace = s.ioTrace := rfl
@[simp] theorem State.setHiLo_draws (h l : Word) : (s.setHiLo h l).draws = s.draws := rfl
@[simp] theorem State.setHiLo_lastStep (h l : Word) : (s.setHiLo h l).lastStep = s.lastStep := rfl

@[simp] theorem State.restoreStatus_regs : (s.restoreStatus).regs = s.regs := rfl
@[simp] theorem State.restoreStatus_pc : (s.restoreStatus).pc = s.pc := rfl
@[simp] theorem State.restoreStatus_npc : (s.restoreStatus).npc = s.npc := rfl
@[simp] theorem State.restoreStatus_bd : (s.restoreStatus).bd = s.bd := rfl
@[simp] theorem State.restoreStatus_hi : (s.restoreStatus).hi = s.hi := rfl
@[simp] theorem State.restoreStatus_lo : (s.restoreStatus).lo = s.lo := rfl
@[simp] theorem State.restoreStatus_cop0 : (s.restoreStatus).cop0 = { s.cop0 with sr := popStatus s.cop0.sr } := rfl
@[simp] theorem State.restoreStatus_cop2d : (s.restoreStatus).cop2d = s.cop2d := rfl
@[simp] theorem State.restoreStatus_cop2c : (s.restoreStatus).cop2c = s.cop2c := rfl
@[simp] theorem State.restoreStatus_mem : (s.restoreStatus).mem = s.mem := rfl
@[simp] theorem State.restoreStatus_cfg : (s.restoreStatus).cfg = s.cfg := rfl
@[simp] theorem State.restoreStatus_intLines : (s.restoreStatus).intLines = s.intLines := rfl
@[simp] theorem State.restoreStatus_lineInputs : (s.restoreStatus).lineInputs = s.lineInputs := rfl
@[simp] theorem State.restoreStatus_ioAnswers : (s.restoreStatus).ioAnswers = s.ioAnswers := rfl
@[simp] theorem State.restoreStatus_ioTrace : (s.restoreStatus).ioTrace = s.ioTrace := rfl
@[simp] theorem State.restoreStatus_draws : (s.restoreStatus).draws = s.draws := rfl
@[simp] theorem State.restoreStatus_lastStep : (s.restoreStatus).lastStep = s.lastStep := rfl

@[simp] theorem State.retire_regs (b : Bool) (g : Option Word) : (s.retire b g).regs = s.regs.tick := rfl
@[simp] theorem State.retire_pc (b : Bool) (g : Option Word) : (s.retire b g).pc = s.npc := rfl
@[simp] theorem State.retire_npc (b : Bool) (g : Option Word) : (s.retire b g).npc = g.getD (s.npc + 4#32) := rfl
@[simp] theorem State.retire_bd (b : Bool) (g : Option Word) : (s.retire b g).bd = b := rfl
@[simp] theorem State.retire_hi (b : Bool) (g : Option Word) : (s.retire b g).hi = s.hi := rfl
@[simp] theorem State.retire_lo (b : Bool) (g : Option Word) : (s.retire b g).lo = s.lo := rfl
@[simp] theorem State.retire_cop0 (b : Bool) (g : Option Word) : (s.retire b g).cop0 = s.cop0 := rfl
@[simp] theorem State.retire_cop2d (b : Bool) (g : Option Word) : (s.retire b g).cop2d = s.cop2d := rfl
@[simp] theorem State.retire_cop2c (b : Bool) (g : Option Word) : (s.retire b g).cop2c = s.cop2c := rfl
@[simp] theorem State.retire_mem (b : Bool) (g : Option Word) : (s.retire b g).mem = s.mem := rfl
@[simp] theorem State.retire_cfg (b : Bool) (g : Option Word) : (s.retire b g).cfg = s.cfg := rfl
@[simp] theorem State.retire_intLines (b : Bool) (g : Option Word) : (s.retire b g).intLines = s.intLines := rfl
@[simp] theorem State.retire_lineInputs (b : Bool) (g : Option Word) : (s.retire b g).lineInputs = s.lineInputs := rfl
@[simp] theorem State.retire_ioAnswers (b : Bool) (g : Option Word) : (s.retire b g).ioAnswers = s.ioAnswers := rfl
@[simp] theorem State.retire_ioTrace (b : Bool) (g : Option Word) : (s.retire b g).ioTrace = s.ioTrace := rfl
@[simp] theorem State.retire_draws (b : Bool) (g : Option Word) : (s.retire b g).draws = s.draws := rfl
@[simp] theorem State.retire_lastStep (b : Bool) (g : Option Word) : (s.retire b g).lastStep = some .retired := rfl

@[simp] theorem State.enter_regs (e : Exc) : (s.enter e).regs = s.regs.tick := rfl
@[simp] theorem State.enter_pc (e : Exc) : (s.enter e).pc = s.vector := rfl
@[simp] theorem State.enter_npc (e : Exc) : (s.enter e).npc = s.vector + 4#32 := rfl
@[simp] theorem State.enter_bd (e : Exc) : (s.enter e).bd = false := rfl
@[simp] theorem State.enter_hi (e : Exc) : (s.enter e).hi = s.hi := rfl
@[simp] theorem State.enter_lo (e : Exc) : (s.enter e).lo = s.lo := rfl
@[simp] theorem State.enter_cop0 (e : Exc) : (s.enter e).cop0 = { s.cop0 with badVaddr := e.badVaddr.getD s.cop0.badVaddr, epc := s.restartAddress, cause := enterCause s.cop0.cause s.bd e.ce e.code, sr := pushStatus s.cop0.sr } := rfl
@[simp] theorem State.enter_cop2d (e : Exc) : (s.enter e).cop2d = s.cop2d := rfl
@[simp] theorem State.enter_cop2c (e : Exc) : (s.enter e).cop2c = s.cop2c := rfl
@[simp] theorem State.enter_mem (e : Exc) : (s.enter e).mem = s.mem := rfl
@[simp] theorem State.enter_cfg (e : Exc) : (s.enter e).cfg = s.cfg := rfl
@[simp] theorem State.enter_intLines (e : Exc) : (s.enter e).intLines = s.intLines := rfl
@[simp] theorem State.enter_lineInputs (e : Exc) : (s.enter e).lineInputs = s.lineInputs := rfl
@[simp] theorem State.enter_ioAnswers (e : Exc) : (s.enter e).ioAnswers = s.ioAnswers := rfl
@[simp] theorem State.enter_ioTrace (e : Exc) : (s.enter e).ioTrace = s.ioTrace := rfl
@[simp] theorem State.enter_draws (e : Exc) : (s.enter e).draws = s.draws := rfl
@[simp] theorem State.enter_lastStep (e : Exc) : (s.enter e).lastStep = some (.excepted e.code) := rfl

@[simp] theorem State.storeByte_regs (l : Loc) (b : Byte) : (s.storeByte l b).regs = s.regs := rfl
@[simp] theorem State.storeByte_pc (l : Loc) (b : Byte) : (s.storeByte l b).pc = s.pc := rfl
@[simp] theorem State.storeByte_npc (l : Loc) (b : Byte) : (s.storeByte l b).npc = s.npc := rfl
@[simp] theorem State.storeByte_bd (l : Loc) (b : Byte) : (s.storeByte l b).bd = s.bd := rfl
@[simp] theorem State.storeByte_hi (l : Loc) (b : Byte) : (s.storeByte l b).hi = s.hi := rfl
@[simp] theorem State.storeByte_lo (l : Loc) (b : Byte) : (s.storeByte l b).lo = s.lo := rfl
@[simp] theorem State.storeByte_cop0 (l : Loc) (b : Byte) : (s.storeByte l b).cop0 = s.cop0 := rfl
@[simp] theorem State.storeByte_cop2d (l : Loc) (b : Byte) : (s.storeByte l b).cop2d = s.cop2d := rfl
@[simp] theorem State.storeByte_cop2c (l : Loc) (b : Byte) : (s.storeByte l b).cop2c = s.cop2c := rfl
@[simp] theorem State.storeByte_mem (l : Loc) (b : Byte) : (s.storeByte l b).mem = Memory.write s.mem (storageAddress s.cfg l) b := rfl
@[simp] theorem State.storeByte_cfg (l : Loc) (b : Byte) : (s.storeByte l b).cfg = s.cfg := rfl
@[simp] theorem State.storeByte_intLines (l : Loc) (b : Byte) : (s.storeByte l b).intLines = s.intLines := rfl
@[simp] theorem State.storeByte_lineInputs (l : Loc) (b : Byte) : (s.storeByte l b).lineInputs = s.lineInputs := rfl
@[simp] theorem State.storeByte_ioAnswers (l : Loc) (b : Byte) : (s.storeByte l b).ioAnswers = s.ioAnswers := rfl
@[simp] theorem State.storeByte_ioTrace (l : Loc) (b : Byte) : (s.storeByte l b).ioTrace = s.ioTrace := rfl
@[simp] theorem State.storeByte_draws (l : Loc) (b : Byte) : (s.storeByte l b).draws = s.draws := rfl
@[simp] theorem State.storeByte_lastStep (l : Loc) (b : Byte) : (s.storeByte l b).lastStep = s.lastStep := rfl

@[simp] theorem State.ioWrite_regs (off : Nat) (b : Byte) : (s.ioWrite off b).regs = s.regs := rfl
@[simp] theorem State.ioWrite_pc (off : Nat) (b : Byte) : (s.ioWrite off b).pc = s.pc := rfl
@[simp] theorem State.ioWrite_npc (off : Nat) (b : Byte) : (s.ioWrite off b).npc = s.npc := rfl
@[simp] theorem State.ioWrite_bd (off : Nat) (b : Byte) : (s.ioWrite off b).bd = s.bd := rfl
@[simp] theorem State.ioWrite_hi (off : Nat) (b : Byte) : (s.ioWrite off b).hi = s.hi := rfl
@[simp] theorem State.ioWrite_lo (off : Nat) (b : Byte) : (s.ioWrite off b).lo = s.lo := rfl
@[simp] theorem State.ioWrite_cop0 (off : Nat) (b : Byte) : (s.ioWrite off b).cop0 = s.cop0 := rfl
@[simp] theorem State.ioWrite_cop2d (off : Nat) (b : Byte) : (s.ioWrite off b).cop2d = s.cop2d := rfl
@[simp] theorem State.ioWrite_cop2c (off : Nat) (b : Byte) : (s.ioWrite off b).cop2c = s.cop2c := rfl
@[simp] theorem State.ioWrite_mem (off : Nat) (b : Byte) : (s.ioWrite off b).mem = s.mem := rfl
@[simp] theorem State.ioWrite_cfg (off : Nat) (b : Byte) : (s.ioWrite off b).cfg = s.cfg := rfl
@[simp] theorem State.ioWrite_intLines (off : Nat) (b : Byte) : (s.ioWrite off b).intLines = s.intLines := rfl
@[simp] theorem State.ioWrite_lineInputs (off : Nat) (b : Byte) : (s.ioWrite off b).lineInputs = s.lineInputs := rfl
@[simp] theorem State.ioWrite_ioAnswers (off : Nat) (b : Byte) : (s.ioWrite off b).ioAnswers = s.ioAnswers := rfl
@[simp] theorem State.ioWrite_ioTrace (off : Nat) (b : Byte) : (s.ioWrite off b).ioTrace = .write off b :: s.ioTrace := rfl
@[simp] theorem State.ioWrite_draws (off : Nat) (b : Byte) : (s.ioWrite off b).draws = s.draws := rfl
@[simp] theorem State.ioWrite_lastStep (off : Nat) (b : Byte) : (s.ioWrite off b).lastStep = s.lastStep := rfl

@[simp] theorem State.drawWord_regs : (s.drawWord.2).regs = s.regs := rfl
@[simp] theorem State.drawWord_pc : (s.drawWord.2).pc = s.pc := rfl
@[simp] theorem State.drawWord_npc : (s.drawWord.2).npc = s.npc := rfl
@[simp] theorem State.drawWord_bd : (s.drawWord.2).bd = s.bd := rfl
@[simp] theorem State.drawWord_hi : (s.drawWord.2).hi = s.hi := rfl
@[simp] theorem State.drawWord_lo : (s.drawWord.2).lo = s.lo := rfl
@[simp] theorem State.drawWord_cop0 : (s.drawWord.2).cop0 = s.cop0 := rfl
@[simp] theorem State.drawWord_cop2d : (s.drawWord.2).cop2d = s.cop2d := rfl
@[simp] theorem State.drawWord_cop2c : (s.drawWord.2).cop2c = s.cop2c := rfl
@[simp] theorem State.drawWord_mem : (s.drawWord.2).mem = s.mem := rfl
@[simp] theorem State.drawWord_cfg : (s.drawWord.2).cfg = s.cfg := rfl
@[simp] theorem State.drawWord_intLines : (s.drawWord.2).intLines = s.intLines := rfl
@[simp] theorem State.drawWord_lineInputs : (s.drawWord.2).lineInputs = s.lineInputs := rfl
@[simp] theorem State.drawWord_ioAnswers : (s.drawWord.2).ioAnswers = s.ioAnswers := rfl
@[simp] theorem State.drawWord_ioTrace : (s.drawWord.2).ioTrace = s.ioTrace := rfl
@[simp] theorem State.drawWord_draws : (s.drawWord.2).draws = s.draws + 1 := rfl
@[simp] theorem State.drawWord_lastStep : (s.drawWord.2).lastStep = s.lastStep := rfl

@[simp] theorem State.sampleLines_regs : (s.sampleLines).regs = s.regs := rfl
@[simp] theorem State.sampleLines_pc : (s.sampleLines).pc = s.pc := rfl
@[simp] theorem State.sampleLines_npc : (s.sampleLines).npc = s.npc := rfl
@[simp] theorem State.sampleLines_bd : (s.sampleLines).bd = s.bd := rfl
@[simp] theorem State.sampleLines_hi : (s.sampleLines).hi = s.hi := rfl
@[simp] theorem State.sampleLines_lo : (s.sampleLines).lo = s.lo := rfl
@[simp] theorem State.sampleLines_cop0 : (s.sampleLines).cop0 = { s.cop0 with cause := sampleCause s.cop0.cause (nextLines s.intLines s.lineInputs).1 } := rfl
@[simp] theorem State.sampleLines_cop2d : (s.sampleLines).cop2d = s.cop2d := rfl
@[simp] theorem State.sampleLines_cop2c : (s.sampleLines).cop2c = s.cop2c := rfl
@[simp] theorem State.sampleLines_mem : (s.sampleLines).mem = s.mem := rfl
@[simp] theorem State.sampleLines_cfg : (s.sampleLines).cfg = s.cfg := rfl
@[simp] theorem State.sampleLines_intLines : (s.sampleLines).intLines = (nextLines s.intLines s.lineInputs).1 := rfl
@[simp] theorem State.sampleLines_lineInputs : (s.sampleLines).lineInputs = (nextLines s.intLines s.lineInputs).2 := rfl
@[simp] theorem State.sampleLines_ioAnswers : (s.sampleLines).ioAnswers = s.ioAnswers := rfl
@[simp] theorem State.sampleLines_ioTrace : (s.sampleLines).ioTrace = s.ioTrace := rfl
@[simp] theorem State.sampleLines_draws : (s.sampleLines).draws = s.draws := rfl
@[simp] theorem State.sampleLines_lastStep : (s.sampleLines).lastStep = s.lastStep := rfl

@[simp] theorem State.ioRead_regs (off : Nat) : (s.ioRead off).2.regs = s.regs := by
  unfold State.ioRead; split <;> rfl
@[simp] theorem State.ioRead_pc (off : Nat) : (s.ioRead off).2.pc = s.pc := by
  unfold State.ioRead; split <;> rfl
@[simp] theorem State.ioRead_npc (off : Nat) : (s.ioRead off).2.npc = s.npc := by
  unfold State.ioRead; split <;> rfl
@[simp] theorem State.ioRead_bd (off : Nat) : (s.ioRead off).2.bd = s.bd := by
  unfold State.ioRead; split <;> rfl
@[simp] theorem State.ioRead_hi (off : Nat) : (s.ioRead off).2.hi = s.hi := by
  unfold State.ioRead; split <;> rfl
@[simp] theorem State.ioRead_lo (off : Nat) : (s.ioRead off).2.lo = s.lo := by
  unfold State.ioRead; split <;> rfl
@[simp] theorem State.ioRead_cop0 (off : Nat) : (s.ioRead off).2.cop0 = s.cop0 := by
  unfold State.ioRead; split <;> rfl
@[simp] theorem State.ioRead_cop2d (off : Nat) : (s.ioRead off).2.cop2d = s.cop2d := by
  unfold State.ioRead; split <;> rfl
@[simp] theorem State.ioRead_cop2c (off : Nat) : (s.ioRead off).2.cop2c = s.cop2c := by
  unfold State.ioRead; split <;> rfl
@[simp] theorem State.ioRead_mem (off : Nat) : (s.ioRead off).2.mem = s.mem := by
  unfold State.ioRead; split <;> rfl
@[simp] theorem State.ioRead_cfg (off : Nat) : (s.ioRead off).2.cfg = s.cfg := by
  unfold State.ioRead; split <;> rfl
@[simp] theorem State.ioRead_intLines (off : Nat) : (s.ioRead off).2.intLines = s.intLines := by
  unfold State.ioRead; split <;> rfl
@[simp] theorem State.ioRead_lineInputs (off : Nat) : (s.ioRead off).2.lineInputs = s.lineInputs := by
  unfold State.ioRead; split <;> rfl
@[simp] theorem State.ioRead_lastStep (off : Nat) : (s.ioRead off).2.lastStep = s.lastStep := by
  unfold State.ioRead; split <;> rfl

/-! ### What the updates leave visible through the accessors the meanings read -/

@[simp] theorem State.setX_userMode (r : Reg) (v : Word) : (s.setX r v).userMode = s.userMode := rfl
@[simp] theorem State.setX_isolated (r : Reg) (v : Word) : (s.setX r v).isolated = s.isolated := rfl
@[simp] theorem State.retire_userMode (b : Bool) (g : Option Word) : (s.retire b g).userMode = s.userMode := rfl
@[simp] theorem State.retire_isolated (b : Bool) (g : Option Word) : (s.retire b g).isolated = s.isolated := rfl
@[simp] theorem State.storeByte_userMode (l : Loc) (b : Byte) : (s.storeByte l b).userMode = s.userMode := rfl
@[simp] theorem State.storeByte_x (l : Loc) (b : Byte) (r : Reg) : (s.storeByte l b).x r = s.x r := rfl
@[simp] theorem State.sampleLines_userMode : s.sampleLines.userMode = s.userMode := rfl
@[simp] theorem State.sampleLines_isolated : s.sampleLines.isolated = s.isolated := rfl
@[simp] theorem State.sampleLines_interruptEnable : s.sampleLines.interruptEnable = s.interruptEnable := rfl
@[simp] theorem State.sampleLines_x (r : Reg) : s.sampleLines.x r = s.x r := rfl
@[simp] theorem State.sampleLines_copUsable (z : BitVec 2) : s.sampleLines.copUsable z = s.copUsable z := rfl

end Sys2Proof.Machine
end

