-- ==== Sys2Proof/Laws/Memory.lean ====
section
/-! SUPPORT. The laws of the byte store: read after write, and that a write keeps the canonical form. -/

namespace Sys2Proof.Machine

@[simp] theorem Memory.read_write_same (m : Memory) (a : Nat) (b : Byte) :
    Memory.read (Memory.write m a b) a = some b := by
  induction m with
  | nil => simp [Memory.write, Memory.read]
  | cons c rest ih =>
    obtain ⟨k, v⟩ := c
    simp only [Memory.write]
    split
    · simp [Memory.read]
    · split
      · simp [Memory.read]
      · rename_i h1 h2
        simp [Memory.read, h2, ih]

theorem Memory.read_write_other (m : Memory) {a c : Nat} (b : Byte) (h : c ≠ a) :
    Memory.read (Memory.write m a b) c = Memory.read m c := by
  induction m with
  | nil => simp [Memory.write, Memory.read, h]
  | cons p rest ih =>
    obtain ⟨k, v⟩ := p
    simp only [Memory.write]
    split
    · simp [Memory.read, h]
    · split
      · rename_i h1 h2
        subst h2
        simp [Memory.read, h]
      · simp only [Memory.read, ih]

theorem Memory.byte_write (m : Memory) (a c : Nat) (b : Byte) :
    Memory.byte (Memory.write m a b) c = if c = a then b else Memory.byte m c := by
  by_cases h : c = a
  · subst h; simp [Memory.byte]
  · simp [Memory.byte, Memory.read_write_other m b h, h]

theorem Memory.above_write {m : Memory} {lo a : Nat} (b : Byte) (hm : Memory.above lo m = true) (ha : lo < a) :
    Memory.above lo (Memory.write m a b) = true := by
  induction m with
  | nil => simp [Memory.write, Memory.above, ha]
  | cons c rest ih =>
    obtain ⟨k, v⟩ := c
    simp only [Memory.above, Bool.and_eq_true, decide_eq_true_eq] at hm
    simp only [Memory.write]
    split
    · simp [Memory.above, ha, hm]
    · split
      · rename_i h; subst h; simp [Memory.above, hm]
      · simp [Memory.above, hm, ih hm.2]

theorem Memory.above_of_lt {m : Memory} {lo hi : Nat} (h : lo < hi) (hm : Memory.above hi m = true) :
    Memory.above lo m = true := by
  induction m with
  | nil => rfl
  | cons c rest ih =>
    obtain ⟨k, v⟩ := c
    simp only [Memory.above, Bool.and_eq_true, decide_eq_true_eq] at hm ⊢
    exact ⟨by omega, ih hm.2⟩

/-- A write keeps the canonical form. -/
theorem Memory.wf_write {m : Memory} (a : Nat) (b : Byte) (hm : Memory.wf m = true) :
    Memory.wf (Memory.write m a b) = true := by
  induction m with
  | nil => rfl
  | cons c rest ih =>
    obtain ⟨k, v⟩ := c
    simp only [Memory.wf, Bool.and_eq_true] at hm
    simp only [Memory.write]
    split
    · rename_i h
      simp [Memory.wf, Memory.above, hm, h, Memory.above_of_lt h hm.1]
    · split
      · rename_i h; subst h; simp [Memory.wf, hm]
      · rename_i h1 h2
        simp only [Memory.wf, Bool.and_eq_true]
        exact ⟨Memory.above_write b hm.1 (by omega), ih hm.2⟩

theorem reset_memory_wf : Memory.wf State.reset.mem = true := rfl

end Sys2Proof.Machine
end

