-- ==== Sys2Proof/Laws/Bus.lean ====
section
/-! SUPPORT. What the bus operations can do, said once: translation of several bytes, reads, writes, and the access
algorithms (rules R109, R121 to R129). -/

namespace Sys2Proof.Machine

/-! ### Translation of several bytes -/

@[simp] theorem translateAll_zero (c : Config) (a : Word) : translateAll c a 0 = some [] := rfl

/-- Rule R102's closing sentence, of every table whose physical regions end by `top` (log entry 14): an address from there
up matches no region. -/
theorem matchRegion_above {c : Config} {top p : Nat}
    (h : ∀ r ∈ [c.mainMemory, c.scratchPad, c.parallelPort, c.ioWindow, c.bootRom], r.base + r.size ≤ top)
    (hp : top ≤ p) : matchRegion c p = none := by
  simp only [List.forall_mem_cons] at h
  have out : ∀ r : Interval, r.base + r.size ≤ top → r.contains p = false := fun r hr => by
    simp only [Interval.contains, Bool.and_eq_false_iff, decide_eq_false_iff_not]; omega
  simp [matchRegion, out _ h.1, out _ h.2.1, out _ h.2.2.1, out _ h.2.2.2.1, out _ h.2.2.2.2.1]

/-- The located bytes of an access, byte by byte. -/
theorem translateAll_succ (c : Config) (a : Word) (n : Nat) (ls : List Loc) :
    translateAll c a (n + 1) = some ls ↔
      ∃ l rest, translate c a = some l ∧ translateAll c (a + 1#32) n = some rest ∧ ls = l :: rest := by
  simp only [translateAll]
  constructor
  · intro h
    split at h
    · rename_i l rest h1 h2
      exact ⟨l, rest, h1, h2, by simpa using h.symm⟩
    · cases h
  · rintro ⟨l, rest, h1, h2, rfl⟩
    simp [h1, h2]

theorem add_ofNat_succ (a : Word) (j : Nat) : a + 1#32 + BitVec.ofNat 32 j = a + BitVec.ofNat 32 (j + 1) := by
  rw [BitVec.add_assoc, show (1#32 : Word) = BitVec.ofNat 32 1 from rfl, ← BitVec.ofNat_add, Nat.add_comm]

/-- A byte with no region makes the whole access untranslated (rule R109). -/
theorem translateAll_none {c : Config} {a : Word} {n j : Nat} (hj : j < n)
    (h : translate c (a + BitVec.ofNat 32 j) = none) : translateAll c a n = none := by
  induction n generalizing a j with
  | zero => omega
  | succ n ih =>
    cases j with
    | zero => simp only [BitVec.add_zero] at h; simp [translateAll, h]
    | succ j =>
      have := ih (a := a + 1#32) (j := j) (by omega) (by rw [add_ofNat_succ]; exact h)
      cases h1 : translate c a <;> simp [translateAll, this, h1]

/-- When every byte has a region the access is translated (rule R108). -/
theorem translateAll_some {c : Config} {a : Word} {n : Nat}
    (h : ∀ j < n, (translate c (a + BitVec.ofNat 32 j)).isSome) : ∃ ls, translateAll c a n = some ls := by
  induction n generalizing a with
  | zero => exact ⟨[], rfl⟩
  | succ n ih =>
    obtain ⟨rest, hr⟩ := ih (a := a + 1#32) fun j hj => by
      rw [add_ofNat_succ]; exact h (j + 1) (by omega)
    have h0 := h 0 (by omega)
    simp only [BitVec.add_zero] at h0
    obtain ⟨l, hl⟩ := Option.isSome_iff_exists.mp h0
    exact ⟨l :: rest, (translateAll_succ ..).mpr ⟨l, rest, hl, hr, rfl⟩⟩

/-- Each located byte of a translated access. -/
theorem translateAll_get {c : Config} {a : Word} {n : Nat} {ls : List Loc} (h : translateAll c a n = some ls) :
    ∀ l ∈ ls, ∃ j, j < n ∧ translate c (a + BitVec.ofNat 32 j) = some l := by
  induction n generalizing a ls with
  | zero => simp only [translateAll_zero, Option.some.injEq] at h; subst h; simp
  | succ n ih =>
    obtain ⟨l, rest, h1, h2, rfl⟩ := (translateAll_succ ..).mp h
    intro m hm
    rcases List.mem_cons.mp hm with rfl | hm
    · exact ⟨0, by omega, by simpa using h1⟩
    · obtain ⟨j, hj, ht⟩ := ih h2 m hm
      exact ⟨j + 1, by omega, by rw [← add_ofNat_succ]; exact ht⟩

/-! ### Reads -/

/-- A byte read changes nothing but the router's inputs and events, and the draw counter. -/
theorem readByte_frame (l : Loc) (s : State) :
    (readByte l s).2 =
      { s with ioAnswers := (readByte l s).2.ioAnswers, ioTrace := (readByte l s).2.ioTrace,
               draws := (readByte l s).2.draws } := by
  unfold readByte
  split
  · unfold State.ioRead; split <;> rfl
  all_goals rfl

/-- A read of several bytes changes nothing but the router's inputs and events, and the draw counter. -/
theorem readBytes_frame (ls : List Loc) (s : State) :
    (readBytes ls s).2 =
      { s with ioAnswers := (readBytes ls s).2.ioAnswers, ioTrace := (readBytes ls s).2.ioTrace,
               draws := (readBytes ls s).2.draws } := by
  induction ls generalizing s with
  | nil => rfl
  | cons l ls ih => simp only [readBytes]; rw [ih]; rw [readByte_frame]

/-- A storage byte reads as the store says, with no side effect (rules R110 to R115, R124). -/
theorem readByte_storage {l : Loc} (h : l.inStorage) (s : State) : readByte l s = (s.byteAt l, s) := by
  unfold Loc.inStorage at h
  unfold readByte State.byteAt
  split <;> simp_all

/-- Storage bytes read as the store says, with no side effect. -/
theorem readBytes_storage {ls : List Loc} (h : ∀ l ∈ ls, l.inStorage) (s : State) :
    readBytes ls s = (ls.map s.byteAt, s) := by
  induction ls with
  | nil => rfl
  | cons l ls ih =>
    have hl := readByte_storage (h l (by simp)) s
    have hr := ih fun m hm => h m (by simp [hm])
    simp [readBytes, hl, hr]

/-! ### Writes -/

/-- A byte write changes nothing but storage and the router's events. -/
theorem writeByte_frame (l : Loc) (b : Byte) (s : State) :
    writeByte l b s = { s with mem := (writeByte l b s).mem, ioTrace := (writeByte l b s).ioTrace } := by
  unfold writeByte
  split <;> rfl

/-- A write of several bytes changes nothing but storage and the router's events. -/
theorem writeBytes_frame (ls : List Loc) (v : Word) (s : State) :
    writeBytes ls v s =
      { s with mem := (writeBytes ls v s).mem, ioTrace := (writeBytes ls v s).ioTrace } := by
  induction ls generalizing v s with
  | nil => rfl
  | cons l ls ih => simp only [writeBytes]; rw [ih]; rw [writeByte_frame]

theorem writeByte_wf (l : Loc) (b : Byte) {s : State} (h : Memory.wf s.mem = true) :
    Memory.wf (writeByte l b s).mem = true := by
  unfold writeByte
  split
  · exact h
  · exact h
  all_goals exact Memory.wf_write _ _ h

/-- A write of several bytes keeps the canonical form of memory. -/
theorem writeBytes_wf (ls : List Loc) (v : Word) {s : State} (h : Memory.wf s.mem = true) :
    Memory.wf (writeBytes ls v s).mem = true := by
  induction ls generalizing v s with
  | nil => exact h
  | cons l ls ih => exact ih _ (writeByte_wf l _ h)

/-- A byte write leaves every other storage address alone, and the boot ROM's and the I/O window's bytes too. -/
theorem writeByte_byte_other {l : Loc} {s : State} {a : Nat} (b : Byte)
    (h : l.writable → a ≠ storageAddress s.cfg l) :
    Memory.byte (writeByte l b s).mem a = Memory.byte s.mem a := by
  unfold writeByte
  split
  · rfl
  · rfl
  all_goals
    rename_i hr
    have := h (by simp [Loc.writable, hr])
    simp [Memory.byte_write, this]

/-- A write of several bytes leaves alone every storage address that is none of theirs. -/
theorem writeBytes_byte_other {ls : List Loc} {s : State} {a : Nat} (v : Word)
    (h : ∀ l ∈ ls, l.writable → a ≠ storageAddress s.cfg l) :
    Memory.byte (writeBytes ls v s).mem a = Memory.byte s.mem a := by
  induction ls generalizing v s with
  | nil => rfl
  | cons l ls ih =>
    simp only [writeBytes]
    rw [ih]
    · exact writeByte_byte_other _ (h l (by simp))
    · intro m hm hw
      rw [show (writeByte l (v.setWidth 8) s).cfg = s.cfg by rw [writeByte_frame]]
      exact h m (by simp [hm]) hw

/-- A byte written to a writable region reads back (rules R110 to R112, R115). -/
theorem writeByte_byte_same {l : Loc} (h : l.writable) (b : Byte) (s : State) :
    Memory.byte (writeByte l b s).mem (storageAddress s.cfg l) = b := by
  obtain ⟨h1, h2⟩ := h
  unfold writeByte
  split
  · contradiction
  · contradiction
  all_goals simp [Memory.byte_write]

/-! ### The access algorithms -/

/-- What a MemRead that succeeds did (rule R125). -/
theorem memRead_done {addr : Word} {n : Nat} {s t : State} {v : Word} (h : memRead addr n s = .done v t) :
    addressCheck .load addr n s = none ∧ s.isolated = false ∧
      ∃ ls, translateAll s.cfg addr n = some ls ∧ v = littleEndian (readBytes ls s).1 ∧ t = (readBytes ls s).2 := by
  unfold memRead at h
  split at h
  · cases h
  · rename_i hc
    split at h
    · cases h
    · rename_i hi
      split at h
      · cases h
      · rename_i ls hl
        cases h
        exact ⟨hc, by simpa using hi, ls, hl, rfl, rfl⟩

/-- What a checked store that succeeds did (rules R126, R129). -/
theorem storeChecked_done {addr : Word} {n : Nat} {v : Word} {s t : State} (h : storeChecked addr n v s = .done () t) :
    (s.isolated = true ∧ t = s) ∨
      ∃ ls, translateAll s.cfg addr n = some ls ∧ t = writeBytes ls v s := by
  unfold storeChecked at h
  split at h
  · rename_i hi; cases h; exact .inl ⟨hi, rfl⟩
  · split at h
    · cases h
    · rename_i ls hl; cases h; exact .inr ⟨ls, hl, rfl⟩

/-- What a MemWrite that succeeds did (rules R126, R129). -/
theorem memWrite_done {addr : Word} {n : Nat} {v : Word} {s t : State} (h : memWrite addr n v s = .done () t) :
    addressCheck .store addr n s = none ∧
      ((s.isolated = true ∧ t = s) ∨ ∃ ls, translateAll s.cfg addr n = some ls ∧ t = writeBytes ls v s) := by
  unfold memWrite at h
  split at h
  · cases h
  · rename_i hc; exact ⟨hc, storeChecked_done h⟩

/-- What a FetchWord that succeeds did (rule R128). -/
theorem fetchWord_done {addr : Word} {s t : State} {w : Word} (h : fetchWord addr s = .done w t) :
    addressCheck .load addr 4 s = none ∧
      ∃ ls, translateAll s.cfg addr 4 = some ls ∧ w = littleEndian (readBytes ls s).1 ∧ t = (readBytes ls s).2 := by
  unfold fetchWord at h
  split at h
  · cases h
  · rename_i hc
    split at h
    · cases h
    · rename_i ls hl; cases h; exact ⟨hc, ls, hl, rfl, rfl⟩

/-- FetchWord never refuses (rule R128). -/
theorem fetchWord_not_refused {addr : Word} {s : State} {r : Refusal} : fetchWord addr s ≠ .refused r := by
  unfold fetchWord
  split
  · simp
  · split <;> simp

/-- Whether an address check passes: aligned, and not a kernel address in user mode (rules R117, R120). -/
theorem addressCheck_eq_none {k : AccessKind} {addr : Word} {n : Nat} {s : State} :
    addressCheck k addr n s = none ↔ addr.toNat % n = 0 ∧ (s.userMode && addr.getLsbD 31) = false := by
  unfold addressCheck
  split
  · rename_i h; simp [h]
  · rename_i h
    split
    · rename_i hp; simp_all
    · rename_i hp; simp_all

/-- The only exception an address check raises (rules R117, R120). -/
theorem addressCheck_eq_some {k : AccessKind} {addr : Word} {n : Nat} {s : State} {e : Exc}
    (h : addressCheck k addr n s = some e) : e = addressError k addr := by
  unfold addressCheck at h
  split at h
  · exact (Option.some.inj h).symm
  · split at h
    · exact (Option.some.inj h).symm
    · cases h

end Sys2Proof.Machine
end

