-- ==== Sys2Proof/Laws/Encoding.lean ====
section
/-! SUPPORT. Reading a field back from a word laid out in one of the forms (rules R160 to R163). -/

namespace Sys2Proof

/-- A field that lies wholly in the high part of a concatenation. -/
theorem field_high {v w : Nat} {hi : BitVec v} {lo : BitVec w} {start len : Nat} (h : w ≤ start) :
    BitVec.extractLsb' start len (hi ++ lo) = BitVec.extractLsb' (start - w) len hi :=
  BitVec.extractLsb'_append_eq_of_le h

/-- The low part of a concatenation. -/
theorem field_low {v w : Nat} {hi : BitVec v} {lo : BitVec w} : BitVec.extractLsb' 0 w (hi ++ lo) = lo :=
  BitVec.extractLsb'_append_eq_right

/-- A field that lies wholly in the low part of a concatenation. -/
theorem field_inside {v w : Nat} {hi : BitVec v} {lo : BitVec w} {start len : Nat} (h : start + len ≤ w) :
    BitVec.extractLsb' start len (hi ++ lo) = BitVec.extractLsb' start len lo :=
  BitVec.extractLsb'_append_eq_of_add_le h

@[simp] theorem opOf_iForm (op : BitVec 6) (rs : Reg) (rt : Reg) (imm : BitVec 16) : opOf (iForm op rs rt imm) = op :=
  (field_high (by decide)).trans <| (field_high (by decide)).trans <| (field_high (by decide)).trans <|
    BitVec.extractLsb'_eq_self
@[simp] theorem rsOf_iForm (op : BitVec 6) (rs : Reg) (rt : Reg) (imm : BitVec 16) : rsOf (iForm op rs rt imm) = rs :=
  (field_high (by decide)).trans <| (field_high (by decide)).trans <| field_low
@[simp] theorem rtOf_iForm (op : BitVec 6) (rs : Reg) (rt : Reg) (imm : BitVec 16) : rtOf (iForm op rs rt imm) = rt :=
  (field_high (by decide)).trans <| field_low
@[simp] theorem immOf_iForm (op : BitVec 6) (rs : Reg) (rt : Reg) (imm : BitVec 16) :
    immOf (iForm op rs rt imm) = imm :=
  field_low

@[simp] theorem opOf_rForm (op : BitVec 6) (rs : Reg) (rt : Reg) (rd : Reg) (shamt : BitVec 5) (funct : BitVec 6) :
    opOf (rForm op rs rt rd shamt funct) = op :=
  (field_high (by decide)).trans <| (field_high (by decide)).trans <| (field_high (by decide)).trans <|
    (field_high (by decide)).trans <| (field_high (by decide)).trans <| BitVec.extractLsb'_eq_self
@[simp] theorem rsOf_rForm (op : BitVec 6) (rs : Reg) (rt : Reg) (rd : Reg) (shamt : BitVec 5) (funct : BitVec 6) :
    rsOf (rForm op rs rt rd shamt funct) = rs :=
  (field_high (by decide)).trans <| (field_high (by decide)).trans <| (field_high (by decide)).trans <|
    (field_high (by decide)).trans <| field_low
@[simp] theorem rtOf_rForm (op : BitVec 6) (rs : Reg) (rt : Reg) (rd : Reg) (shamt : BitVec 5) (funct : BitVec 6) :
    rtOf (rForm op rs rt rd shamt funct) = rt :=
  (field_high (by decide)).trans <| (field_high (by decide)).trans <| (field_high (by decide)).trans <| field_low
@[simp] theorem rdOf_rForm (op : BitVec 6) (rs : Reg) (rt : Reg) (rd : Reg) (shamt : BitVec 5) (funct : BitVec 6) :
    rdOf (rForm op rs rt rd shamt funct) = rd :=
  (field_high (by decide)).trans <| (field_high (by decide)).trans <| field_low
@[simp] theorem shamtOf_rForm (op : BitVec 6) (rs : Reg) (rt : Reg) (rd : Reg) (shamt : BitVec 5) (funct : BitVec 6) :
    shamtOf (rForm op rs rt rd shamt funct) = shamt :=
  (field_high (by decide)).trans <| field_low
@[simp] theorem functOf_rForm (op : BitVec 6) (rs : Reg) (rt : Reg) (rd : Reg) (shamt : BitVec 5) (funct : BitVec 6) :
    functOf (rForm op rs rt rd shamt funct) = funct :=
  field_low

@[simp] theorem opOf_jForm (op : BitVec 6) (target : BitVec 26) : opOf (jForm op target) = op :=
  (field_high (by decide)).trans <| BitVec.extractLsb'_eq_self
@[simp] theorem targetOf_jForm (op : BitVec 6) (target : BitVec 26) : targetOf (jForm op target) = target :=
  field_low

@[simp] theorem opOf_codeForm (op : BitVec 6) (code : BitVec 20) (funct : BitVec 6) :
    opOf (codeForm op code funct) = op :=
  (field_high (by decide)).trans <| (field_high (by decide)).trans <| BitVec.extractLsb'_eq_self
@[simp] theorem codeOf_codeForm (op : BitVec 6) (code : BitVec 20) (funct : BitVec 6) :
    codeOf (codeForm op code funct) = code :=
  (field_high (by decide)).trans <| field_low
@[simp] theorem functOf_codeForm (op : BitVec 6) (code : BitVec 20) (funct : BitVec 6) :
    functOf (codeForm op code funct) = funct :=
  field_low

@[simp] theorem opOf_coForm (op : BitVec 6) (cofun : BitVec 25) : opOf (coForm op cofun) = op :=
  (field_high (by decide)).trans <| (field_high (by decide)).trans <| BitVec.extractLsb'_eq_self
@[simp] theorem coOf_coForm (op : BitVec 6) (cofun : BitVec 25) : coOf (coForm op cofun) = 1#1 :=
  (field_high (by decide)).trans <| field_low
@[simp] theorem cofunOf_coForm (op : BitVec 6) (cofun : BitVec 25) : cofunOf (coForm op cofun) = cofun :=
  field_low

/-- The bit that marks a coprocessor function, in a word of the register form: the top bit of the selector. -/
@[simp] theorem coOf_rForm (op : BitVec 6) (rs : Reg) (rt : Reg) (rd : Reg) (shamt : BitVec 5) (funct : BitVec 6) :
    coOf (rForm op rs rt rd shamt funct) = rs.extractLsb' 4 1 :=
  (field_high (by decide)).trans <| (field_high (by decide)).trans <| (field_high (by decide)).trans <|
    (field_high (by decide)).trans <| field_inside (by decide)

/-- The bit that marks a coprocessor function, in a word of the immediate form. -/
@[simp] theorem coOf_iForm (op : BitVec 6) (rs : Reg) (rt : Reg) (imm : BitVec 16) :
    coOf (iForm op rs rt imm) = rs.extractLsb' 4 1 :=
  (field_high (by decide)).trans <| (field_high (by decide)).trans <| field_inside (by decide)

/-- The function code of a coprocessor-function word. -/
@[simp] theorem functOf_coForm (op : BitVec 6) (cofun : BitVec 25) :
    functOf (coForm op cofun) = cofun.extractLsb' 0 6 :=
  field_inside (by decide)

/-! ### Masking a form field by field -/

theorem iForm_and (a b : BitVec 6) (c d e f : Reg) (g h : BitVec 16) :
    iForm a c e g &&& iForm b d f h = iForm (a &&& b) (c &&& d) (e &&& f) (g &&& h) := by
  unfold iForm
  refine (BitVec.and_append).trans ?_
  refine congrArg (· ++ (g &&& h)) ((BitVec.and_append).trans ?_)
  exact congrArg (· ++ (e &&& f)) BitVec.and_append

theorem rForm_and (a b : BitVec 6) (c d e f g h : Reg) (i j : BitVec 5) (k l : BitVec 6) :
    rForm a c e g i k &&& rForm b d f h j l = rForm (a &&& b) (c &&& d) (e &&& f) (g &&& h) (i &&& j) (k &&& l) := by
  unfold rForm
  refine (BitVec.and_append).trans ?_
  refine congrArg (· ++ (k &&& l)) ((BitVec.and_append).trans ?_)
  refine congrArg (· ++ (i &&& j)) ((BitVec.and_append).trans ?_)
  refine congrArg (· ++ (g &&& h)) ((BitVec.and_append).trans ?_)
  exact congrArg (· ++ (e &&& f)) BitVec.and_append

theorem jForm_and (a b : BitVec 6) (c d : BitVec 26) : jForm a c &&& jForm b d = jForm (a &&& b) (c &&& d) :=
  BitVec.and_append

theorem codeForm_and (a b : BitVec 6) (c d : BitVec 20) (e f : BitVec 6) :
    codeForm a c e &&& codeForm b d f = codeForm (a &&& b) (c &&& d) (e &&& f) := by
  unfold codeForm
  refine (BitVec.and_append).trans ?_
  exact congrArg (· ++ (e &&& f)) BitVec.and_append

theorem coForm_and (a b : BitVec 6) (c d : BitVec 25) : coForm a c &&& coForm b d = coForm (a &&& b) (c &&& d) := by
  unfold coForm
  refine (BitVec.and_append).trans ?_
  exact congrArg (· ++ (c &&& d)) BitVec.and_append

/-- The bytes of a word, put together again (rule R118). -/
theorem wordOfBytes_byteOf (w : Word) : wordOfBytes (byteOf w 0) (byteOf w 1) (byteOf w 2) (byteOf w 3) = w := by
  unfold wordOfBytes byteOf
  ext i hi
  simp only [BitVec.getElem_append, BitVec.getElem_extractLsb']
  split
  · rw [BitVec.getLsbD_eq_getElem (by omega)]; congr 1; omega
  · split
    · rw [BitVec.getLsbD_eq_getElem (by omega)]; congr 1; omega
    · split
      · rw [BitVec.getLsbD_eq_getElem (by omega)]; congr 1; omega
      · rw [BitVec.getLsbD_eq_getElem (by omega)]; congr 1; omega

end Sys2Proof
end

