-- ==== Sys2Proof/Laws/Host.lean ====
section
/-! SUPPORT. Laws of the host's operations: what a saved COP0 bank holds, and that loading it gives the registers back. -/

namespace Sys2Proof.Machine

/-- A word of a saved COP0 bank: the register's value, or the draw where it holds none (rules R91, R360). -/
theorem cop0Save_getElem (d : Vector Word 32) (c : Cop0) (r : Reg) :
    (cop0Save d c)[r.toNat] = (cop0Value r c).getD d[r.toNat] := by
  simp [cop0Save]

/-- JUMPDEST and the absent registers hold no value (rules R68, R69). -/
theorem cop0Value_none {r : Reg} (c : Cop0) (h : r = 6 ∨ r.toNat ≤ 2 ∨ r = 4 ∨ r = 10 ∨ 16 ≤ r.toNat) :
    cop0Value r c = none := by
  have hr : cop0RegOf r = .jumpDest ∨ cop0RegOf r = .absent := by revert r; decide
  unfold cop0Value
  rcases hr with hr | hr <;> rw [hr]

/-- Loading a saved bank gives the COP0 registers back (rule R90). -/
@[simp] theorem cop0Load_cop0Save (d : Vector Word 32) (c : Cop0) : cop0Load (cop0Save d c) = c := by
  simp [cop0Load, cop0Save, cop0Value, cop0RegOf]

end Sys2Proof.Machine
end

