-- ==== Sys2Proof/Laws/PerInstr.lean ====
section
/-! SUPPORT. Statements made for every instruction, one lemma per constructor. Family TableRow: the encoder's word has
the fixed bits of the instruction's row of spec/opcode_table.json. -/

namespace Sys2Proof.Laws.TableRow

/-- The word of `i`, under its row's mask, is its row's pattern. -/
def Statement (i : Instr) : Prop := encode i &&& i.row.mask = i.row.pattern

theorem sll (rd rt : Reg) (shamt : BitVec 5) : Statement (.sll rd rt shamt) := by
  show rForm 0x00 0 rt rd shamt 0x00 &&& rForm 0x3F#6 0x0#5 0x0#5 0x0#5 0x0#5 0x3F#6 = 0x00000000#32
  rw [rForm_and]; simp; rfl
theorem srl (rd rt : Reg) (shamt : BitVec 5) : Statement (.srl rd rt shamt) := by
  show rForm 0x00 0 rt rd shamt 0x02 &&& rForm 0x3F#6 0x0#5 0x0#5 0x0#5 0x0#5 0x3F#6 = 0x00000002#32
  rw [rForm_and]; simp; rfl
theorem sra (rd rt : Reg) (shamt : BitVec 5) : Statement (.sra rd rt shamt) := by
  show rForm 0x00 0 rt rd shamt 0x03 &&& rForm 0x3F#6 0x0#5 0x0#5 0x0#5 0x0#5 0x3F#6 = 0x00000003#32
  rw [rForm_and]; simp; rfl
theorem sllv (rd rt rs : Reg) : Statement (.sllv rd rt rs) := by
  show rForm 0x00 rs rt rd 0 0x04 &&& rForm 0x3F#6 0x0#5 0x0#5 0x0#5 0x0#5 0x3F#6 = 0x00000004#32
  rw [rForm_and]; simp; rfl
theorem srlv (rd rt rs : Reg) : Statement (.srlv rd rt rs) := by
  show rForm 0x00 rs rt rd 0 0x06 &&& rForm 0x3F#6 0x0#5 0x0#5 0x0#5 0x0#5 0x3F#6 = 0x00000006#32
  rw [rForm_and]; simp; rfl
theorem srav (rd rt rs : Reg) : Statement (.srav rd rt rs) := by
  show rForm 0x00 rs rt rd 0 0x07 &&& rForm 0x3F#6 0x0#5 0x0#5 0x0#5 0x0#5 0x3F#6 = 0x00000007#32
  rw [rForm_and]; simp; rfl
theorem jr (rs : Reg) : Statement (.jr rs) := by
  show rForm 0x00 rs 0 0 0 0x08 &&& rForm 0x3F#6 0x0#5 0x0#5 0x0#5 0x0#5 0x3F#6 = 0x00000008#32
  rw [rForm_and]; simp; rfl
theorem jalr (rd rs : Reg) : Statement (.jalr rd rs) := by
  show rForm 0x00 rs 0 rd 0 0x09 &&& rForm 0x3F#6 0x0#5 0x0#5 0x0#5 0x0#5 0x3F#6 = 0x00000009#32
  rw [rForm_and]; simp; rfl
theorem syscall (code : BitVec 20) : Statement (.syscall code) := by
  show codeForm 0x00 code 0x0C &&& codeForm 0x3F#6 0x0#20 0x3F#6 = 0x0000000C#32
  rw [codeForm_and]; simp; rfl
theorem brk (code : BitVec 20) : Statement (.brk code) := by
  show codeForm 0x00 code 0x0D &&& codeForm 0x3F#6 0x0#20 0x3F#6 = 0x0000000D#32
  rw [codeForm_and]; simp; rfl
theorem mfhi (rd : Reg) : Statement (.mfhi rd) := by
  show rForm 0x00 0 0 rd 0 0x10 &&& rForm 0x3F#6 0x0#5 0x0#5 0x0#5 0x0#5 0x3F#6 = 0x00000010#32
  rw [rForm_and]; simp; rfl
theorem mthi (rs : Reg) : Statement (.mthi rs) := by
  show rForm 0x00 rs 0 0 0 0x11 &&& rForm 0x3F#6 0x0#5 0x0#5 0x0#5 0x0#5 0x3F#6 = 0x00000011#32
  rw [rForm_and]; simp; rfl
theorem mflo (rd : Reg) : Statement (.mflo rd) := by
  show rForm 0x00 0 0 rd 0 0x12 &&& rForm 0x3F#6 0x0#5 0x0#5 0x0#5 0x0#5 0x3F#6 = 0x00000012#32
  rw [rForm_and]; simp; rfl
theorem mtlo (rs : Reg) : Statement (.mtlo rs) := by
  show rForm 0x00 rs 0 0 0 0x13 &&& rForm 0x3F#6 0x0#5 0x0#5 0x0#5 0x0#5 0x3F#6 = 0x00000013#32
  rw [rForm_and]; simp; rfl
theorem mult (rs rt : Reg) : Statement (.mult rs rt) := by
  show rForm 0x00 rs rt 0 0 0x18 &&& rForm 0x3F#6 0x0#5 0x0#5 0x0#5 0x0#5 0x3F#6 = 0x00000018#32
  rw [rForm_and]; simp; rfl
theorem multu (rs rt : Reg) : Statement (.multu rs rt) := by
  show rForm 0x00 rs rt 0 0 0x19 &&& rForm 0x3F#6 0x0#5 0x0#5 0x0#5 0x0#5 0x3F#6 = 0x00000019#32
  rw [rForm_and]; simp; rfl
theorem div (rs rt : Reg) : Statement (.div rs rt) := by
  show rForm 0x00 rs rt 0 0 0x1A &&& rForm 0x3F#6 0x0#5 0x0#5 0x0#5 0x0#5 0x3F#6 = 0x0000001A#32
  rw [rForm_and]; simp; rfl
theorem divu (rs rt : Reg) : Statement (.divu rs rt) := by
  show rForm 0x00 rs rt 0 0 0x1B &&& rForm 0x3F#6 0x0#5 0x0#5 0x0#5 0x0#5 0x3F#6 = 0x0000001B#32
  rw [rForm_and]; simp; rfl
theorem add (rd rs rt : Reg) : Statement (.add rd rs rt) := by
  show rForm 0x00 rs rt rd 0 0x20 &&& rForm 0x3F#6 0x0#5 0x0#5 0x0#5 0x0#5 0x3F#6 = 0x00000020#32
  rw [rForm_and]; simp; rfl
theorem addu (rd rs rt : Reg) : Statement (.addu rd rs rt) := by
  show rForm 0x00 rs rt rd 0 0x21 &&& rForm 0x3F#6 0x0#5 0x0#5 0x0#5 0x0#5 0x3F#6 = 0x00000021#32
  rw [rForm_and]; simp; rfl
theorem sub (rd rs rt : Reg) : Statement (.sub rd rs rt) := by
  show rForm 0x00 rs rt rd 0 0x22 &&& rForm 0x3F#6 0x0#5 0x0#5 0x0#5 0x0#5 0x3F#6 = 0x00000022#32
  rw [rForm_and]; simp; rfl
theorem subu (rd rs rt : Reg) : Statement (.subu rd rs rt) := by
  show rForm 0x00 rs rt rd 0 0x23 &&& rForm 0x3F#6 0x0#5 0x0#5 0x0#5 0x0#5 0x3F#6 = 0x00000023#32
  rw [rForm_and]; simp; rfl
theorem and (rd rs rt : Reg) : Statement (.and rd rs rt) := by
  show rForm 0x00 rs rt rd 0 0x24 &&& rForm 0x3F#6 0x0#5 0x0#5 0x0#5 0x0#5 0x3F#6 = 0x00000024#32
  rw [rForm_and]; simp; rfl
theorem or (rd rs rt : Reg) : Statement (.or rd rs rt) := by
  show rForm 0x00 rs rt rd 0 0x25 &&& rForm 0x3F#6 0x0#5 0x0#5 0x0#5 0x0#5 0x3F#6 = 0x00000025#32
  rw [rForm_and]; simp; rfl
theorem xor (rd rs rt : Reg) : Statement (.xor rd rs rt) := by
  show rForm 0x00 rs rt rd 0 0x26 &&& rForm 0x3F#6 0x0#5 0x0#5 0x0#5 0x0#5 0x3F#6 = 0x00000026#32
  rw [rForm_and]; simp; rfl
theorem nor (rd rs rt : Reg) : Statement (.nor rd rs rt) := by
  show rForm 0x00 rs rt rd 0 0x27 &&& rForm 0x3F#6 0x0#5 0x0#5 0x0#5 0x0#5 0x3F#6 = 0x00000027#32
  rw [rForm_and]; simp; rfl
theorem slt (rd rs rt : Reg) : Statement (.slt rd rs rt) := by
  show rForm 0x00 rs rt rd 0 0x2A &&& rForm 0x3F#6 0x0#5 0x0#5 0x0#5 0x0#5 0x3F#6 = 0x0000002A#32
  rw [rForm_and]; simp; rfl
theorem sltu (rd rs rt : Reg) : Statement (.sltu rd rs rt) := by
  show rForm 0x00 rs rt rd 0 0x2B &&& rForm 0x3F#6 0x0#5 0x0#5 0x0#5 0x0#5 0x3F#6 = 0x0000002B#32
  rw [rForm_and]; simp; rfl
theorem bltz (rs : Reg) (imm : BitVec 16) : Statement (.bltz rs imm) := by
  show iForm 0x01 rs 0x00 imm &&& iForm 0x3F#6 0x0#5 0x1F#5 0x0#16 = 0x04000000#32
  rw [iForm_and]; simp; rfl
theorem bgez (rs : Reg) (imm : BitVec 16) : Statement (.bgez rs imm) := by
  show iForm 0x01 rs 0x01 imm &&& iForm 0x3F#6 0x0#5 0x1F#5 0x0#16 = 0x04010000#32
  rw [iForm_and]; simp; rfl
theorem bltzal (rs : Reg) (imm : BitVec 16) : Statement (.bltzal rs imm) := by
  show iForm 0x01 rs 0x10 imm &&& iForm 0x3F#6 0x0#5 0x1F#5 0x0#16 = 0x04100000#32
  rw [iForm_and]; simp; rfl
theorem bgezal (rs : Reg) (imm : BitVec 16) : Statement (.bgezal rs imm) := by
  show iForm 0x01 rs 0x11 imm &&& iForm 0x3F#6 0x0#5 0x1F#5 0x0#16 = 0x04110000#32
  rw [iForm_and]; simp; rfl
theorem j (target : BitVec 26) : Statement (.j target) := by
  show jForm 0x02 target &&& jForm 0x3F#6 0x0#26 = 0x08000000#32
  rw [jForm_and]; simp; rfl
theorem jal (target : BitVec 26) : Statement (.jal target) := by
  show jForm 0x03 target &&& jForm 0x3F#6 0x0#26 = 0x0C000000#32
  rw [jForm_and]; simp; rfl
theorem beq (rs rt : Reg) (imm : BitVec 16) : Statement (.beq rs rt imm) := by
  show iForm 0x04 rs rt imm &&& iForm 0x3F#6 0x0#5 0x0#5 0x0#16 = 0x10000000#32
  rw [iForm_and]; simp; rfl
theorem bne (rs rt : Reg) (imm : BitVec 16) : Statement (.bne rs rt imm) := by
  show iForm 0x05 rs rt imm &&& iForm 0x3F#6 0x0#5 0x0#5 0x0#16 = 0x14000000#32
  rw [iForm_and]; simp; rfl
theorem blez (rs : Reg) (imm : BitVec 16) : Statement (.blez rs imm) := by
  show iForm 0x06 rs 0 imm &&& iForm 0x3F#6 0x0#5 0x0#5 0x0#16 = 0x18000000#32
  rw [iForm_and]; simp; rfl
theorem bgtz (rs : Reg) (imm : BitVec 16) : Statement (.bgtz rs imm) := by
  show iForm 0x07 rs 0 imm &&& iForm 0x3F#6 0x0#5 0x0#5 0x0#16 = 0x1C000000#32
  rw [iForm_and]; simp; rfl
theorem addi (rt rs : Reg) (imm : BitVec 16) : Statement (.addi rt rs imm) := by
  show iForm 0x08 rs rt imm &&& iForm 0x3F#6 0x0#5 0x0#5 0x0#16 = 0x20000000#32
  rw [iForm_and]; simp; rfl
theorem addiu (rt rs : Reg) (imm : BitVec 16) : Statement (.addiu rt rs imm) := by
  show iForm 0x09 rs rt imm &&& iForm 0x3F#6 0x0#5 0x0#5 0x0#16 = 0x24000000#32
  rw [iForm_and]; simp; rfl
theorem slti (rt rs : Reg) (imm : BitVec 16) : Statement (.slti rt rs imm) := by
  show iForm 0x0A rs rt imm &&& iForm 0x3F#6 0x0#5 0x0#5 0x0#16 = 0x28000000#32
  rw [iForm_and]; simp; rfl
theorem sltiu (rt rs : Reg) (imm : BitVec 16) : Statement (.sltiu rt rs imm) := by
  show iForm 0x0B rs rt imm &&& iForm 0x3F#6 0x0#5 0x0#5 0x0#16 = 0x2C000000#32
  rw [iForm_and]; simp; rfl
theorem andi (rt rs : Reg) (imm : BitVec 16) : Statement (.andi rt rs imm) := by
  show iForm 0x0C rs rt imm &&& iForm 0x3F#6 0x0#5 0x0#5 0x0#16 = 0x30000000#32
  rw [iForm_and]; simp; rfl
theorem ori (rt rs : Reg) (imm : BitVec 16) : Statement (.ori rt rs imm) := by
  show iForm 0x0D rs rt imm &&& iForm 0x3F#6 0x0#5 0x0#5 0x0#16 = 0x34000000#32
  rw [iForm_and]; simp; rfl
theorem xori (rt rs : Reg) (imm : BitVec 16) : Statement (.xori rt rs imm) := by
  show iForm 0x0E rs rt imm &&& iForm 0x3F#6 0x0#5 0x0#5 0x0#16 = 0x38000000#32
  rw [iForm_and]; simp; rfl
theorem lui (rt : Reg) (imm : BitVec 16) : Statement (.lui rt imm) := by
  show iForm 0x0F 0 rt imm &&& iForm 0x3F#6 0x0#5 0x0#5 0x0#16 = 0x3C000000#32
  rw [iForm_and]; simp; rfl
theorem lb (rt rs : Reg) (imm : BitVec 16) : Statement (.lb rt rs imm) := by
  show iForm 0x20 rs rt imm &&& iForm 0x3F#6 0x0#5 0x0#5 0x0#16 = 0x80000000#32
  rw [iForm_and]; simp; rfl
theorem lh (rt rs : Reg) (imm : BitVec 16) : Statement (.lh rt rs imm) := by
  show iForm 0x21 rs rt imm &&& iForm 0x3F#6 0x0#5 0x0#5 0x0#16 = 0x84000000#32
  rw [iForm_and]; simp; rfl
theorem lwl (rt rs : Reg) (imm : BitVec 16) : Statement (.lwl rt rs imm) := by
  show iForm 0x22 rs rt imm &&& iForm 0x3F#6 0x0#5 0x0#5 0x0#16 = 0x88000000#32
  rw [iForm_and]; simp; rfl
theorem lw (rt rs : Reg) (imm : BitVec 16) : Statement (.lw rt rs imm) := by
  show iForm 0x23 rs rt imm &&& iForm 0x3F#6 0x0#5 0x0#5 0x0#16 = 0x8C000000#32
  rw [iForm_and]; simp; rfl
theorem lbu (rt rs : Reg) (imm : BitVec 16) : Statement (.lbu rt rs imm) := by
  show iForm 0x24 rs rt imm &&& iForm 0x3F#6 0x0#5 0x0#5 0x0#16 = 0x90000000#32
  rw [iForm_and]; simp; rfl
theorem lhu (rt rs : Reg) (imm : BitVec 16) : Statement (.lhu rt rs imm) := by
  show iForm 0x25 rs rt imm &&& iForm 0x3F#6 0x0#5 0x0#5 0x0#16 = 0x94000000#32
  rw [iForm_and]; simp; rfl
theorem lwr (rt rs : Reg) (imm : BitVec 16) : Statement (.lwr rt rs imm) := by
  show iForm 0x26 rs rt imm &&& iForm 0x3F#6 0x0#5 0x0#5 0x0#16 = 0x98000000#32
  rw [iForm_and]; simp; rfl
theorem sb (rt rs : Reg) (imm : BitVec 16) : Statement (.sb rt rs imm) := by
  show iForm 0x28 rs rt imm &&& iForm 0x3F#6 0x0#5 0x0#5 0x0#16 = 0xA0000000#32
  rw [iForm_and]; simp; rfl
theorem sh (rt rs : Reg) (imm : BitVec 16) : Statement (.sh rt rs imm) := by
  show iForm 0x29 rs rt imm &&& iForm 0x3F#6 0x0#5 0x0#5 0x0#16 = 0xA4000000#32
  rw [iForm_and]; simp; rfl
theorem swl (rt rs : Reg) (imm : BitVec 16) : Statement (.swl rt rs imm) := by
  show iForm 0x2A rs rt imm &&& iForm 0x3F#6 0x0#5 0x0#5 0x0#16 = 0xA8000000#32
  rw [iForm_and]; simp; rfl
theorem sw (rt rs : Reg) (imm : BitVec 16) : Statement (.sw rt rs imm) := by
  show iForm 0x2B rs rt imm &&& iForm 0x3F#6 0x0#5 0x0#5 0x0#16 = 0xAC000000#32
  rw [iForm_and]; simp; rfl
theorem swr (rt rs : Reg) (imm : BitVec 16) : Statement (.swr rt rs imm) := by
  show iForm 0x2E rs rt imm &&& iForm 0x3F#6 0x0#5 0x0#5 0x0#16 = 0xB8000000#32
  rw [iForm_and]; simp; rfl
theorem mfc0 (rt rd : Reg) : Statement (.mfc0 rt rd) := by
  show rForm 0x10 0x00 rt rd 0 0 &&& rForm 0x3F#6 0x1F#5 0x0#5 0x0#5 0x0#5 0x0#6 = 0x40000000#32
  rw [rForm_and]; simp; rfl
theorem cfc0 (rt rd : Reg) : Statement (.cfc0 rt rd) := by
  show rForm 0x10 0x02 rt rd 0 0 &&& rForm 0x3F#6 0x1F#5 0x0#5 0x0#5 0x0#5 0x0#6 = 0x40400000#32
  rw [rForm_and]; simp; rfl
theorem mtc0 (rt rd : Reg) : Statement (.mtc0 rt rd) := by
  show rForm 0x10 0x04 rt rd 0 0 &&& rForm 0x3F#6 0x1F#5 0x0#5 0x0#5 0x0#5 0x0#6 = 0x40800000#32
  rw [rForm_and]; simp; rfl
theorem ctc0 (rt rd : Reg) : Statement (.ctc0 rt rd) := by
  show rForm 0x10 0x06 rt rd 0 0 &&& rForm 0x3F#6 0x1F#5 0x0#5 0x0#5 0x0#5 0x0#6 = 0x40C00000#32
  rw [rForm_and]; simp; rfl
theorem bc0f (imm : BitVec 16) : Statement (.bc0f imm) := by
  show iForm 0x10 0x08 0x00 imm &&& iForm 0x3F#6 0x1F#5 0x1F#5 0x0#16 = 0x41000000#32
  rw [iForm_and]; simp; rfl
theorem bc0t (imm : BitVec 16) : Statement (.bc0t imm) := by
  show iForm 0x10 0x08 0x01 imm &&& iForm 0x3F#6 0x1F#5 0x1F#5 0x0#16 = 0x41010000#32
  rw [iForm_and]; simp; rfl
theorem rfe : Statement .rfe := by
  show coForm 0x10 0x10 &&& coForm 0x3F#6 0x3F#25 = 0x42000010#32
  rw [coForm_and]; simp; rfl
theorem cop0 (cofun : BitVec 25) : Statement (.cop0 cofun) := by
  show coForm 0x10 cofun &&& coForm 0x3F#6 0x0#25 = 0x42000000#32
  rw [coForm_and]; simp; rfl
theorem lwc0 (rt rs : Reg) (imm : BitVec 16) : Statement (.lwc0 rt rs imm) := by
  show iForm 0x30 rs rt imm &&& iForm 0x3F#6 0x0#5 0x0#5 0x0#16 = 0xC0000000#32
  rw [iForm_and]; simp; rfl
theorem swc0 (rt rs : Reg) (imm : BitVec 16) : Statement (.swc0 rt rs imm) := by
  show iForm 0x38 rs rt imm &&& iForm 0x3F#6 0x0#5 0x0#5 0x0#16 = 0xE0000000#32
  rw [iForm_and]; simp; rfl
theorem mfc2 (rt rd : Reg) : Statement (.mfc2 rt rd) := by
  show rForm 0x12 0x00 rt rd 0 0 &&& rForm 0x3F#6 0x1F#5 0x0#5 0x0#5 0x0#5 0x0#6 = 0x48000000#32
  rw [rForm_and]; simp; rfl
theorem cfc2 (rt rd : Reg) : Statement (.cfc2 rt rd) := by
  show rForm 0x12 0x02 rt rd 0 0 &&& rForm 0x3F#6 0x1F#5 0x0#5 0x0#5 0x0#5 0x0#6 = 0x48400000#32
  rw [rForm_and]; simp; rfl
theorem mtc2 (rt rd : Reg) : Statement (.mtc2 rt rd) := by
  show rForm 0x12 0x04 rt rd 0 0 &&& rForm 0x3F#6 0x1F#5 0x0#5 0x0#5 0x0#5 0x0#6 = 0x48800000#32
  rw [rForm_and]; simp; rfl
theorem ctc2 (rt rd : Reg) : Statement (.ctc2 rt rd) := by
  show rForm 0x12 0x06 rt rd 0 0 &&& rForm 0x3F#6 0x1F#5 0x0#5 0x0#5 0x0#5 0x0#6 = 0x48C00000#32
  rw [rForm_and]; simp; rfl
theorem bc2f (imm : BitVec 16) : Statement (.bc2f imm) := by
  show iForm 0x12 0x08 0x00 imm &&& iForm 0x3F#6 0x1F#5 0x1F#5 0x0#16 = 0x49000000#32
  rw [iForm_and]; simp; rfl
theorem bc2t (imm : BitVec 16) : Statement (.bc2t imm) := by
  show iForm 0x12 0x08 0x01 imm &&& iForm 0x3F#6 0x1F#5 0x1F#5 0x0#16 = 0x49010000#32
  rw [iForm_and]; simp; rfl
theorem cop2 (cofun : BitVec 25) : Statement (.cop2 cofun) := by
  show coForm 0x12 cofun &&& coForm 0x3F#6 0x0#25 = 0x4A000000#32
  rw [coForm_and]; simp; rfl
theorem lwc2 (rt rs : Reg) (imm : BitVec 16) : Statement (.lwc2 rt rs imm) := by
  show iForm 0x32 rs rt imm &&& iForm 0x3F#6 0x0#5 0x0#5 0x0#16 = 0xC8000000#32
  rw [iForm_and]; simp; rfl
theorem swc2 (rt rs : Reg) (imm : BitVec 16) : Statement (.swc2 rt rs imm) := by
  show iForm 0x3A rs rt imm &&& iForm 0x3F#6 0x0#5 0x0#5 0x0#16 = 0xE8000000#32
  rw [iForm_and]; simp; rfl
theorem cop1 (body : BitVec 26) : Statement (.cop1 body) := by
  show jForm 0x11 body &&& jForm 0x3F#6 0x0#26 = 0x44000000#32
  rw [jForm_and]; simp; rfl
theorem lwc1 (rt rs : Reg) (imm : BitVec 16) : Statement (.lwc1 rt rs imm) := by
  show iForm 0x31 rs rt imm &&& iForm 0x3F#6 0x0#5 0x0#5 0x0#16 = 0xC4000000#32
  rw [iForm_and]; simp; rfl
theorem swc1 (rt rs : Reg) (imm : BitVec 16) : Statement (.swc1 rt rs imm) := by
  show iForm 0x39 rs rt imm &&& iForm 0x3F#6 0x0#5 0x0#5 0x0#16 = 0xE4000000#32
  rw [iForm_and]; simp; rfl
theorem cop3 (body : BitVec 26) : Statement (.cop3 body) := by
  show jForm 0x13 body &&& jForm 0x3F#6 0x0#26 = 0x4C000000#32
  rw [jForm_and]; simp; rfl
theorem lwc3 (rt rs : Reg) (imm : BitVec 16) : Statement (.lwc3 rt rs imm) := by
  show iForm 0x33 rs rt imm &&& iForm 0x3F#6 0x0#5 0x0#5 0x0#16 = 0xCC000000#32
  rw [iForm_and]; simp; rfl
theorem swc3 (rt rs : Reg) (imm : BitVec 16) : Statement (.swc3 rt rs imm) := by
  show iForm 0x3B rs rt imm &&& iForm 0x3F#6 0x0#5 0x0#5 0x0#16 = 0xEC000000#32
  rw [iForm_and]; simp; rfl

end Sys2Proof.Laws.TableRow
end

