-- ==== Sys2Proof/Laws/Registers.lean ====
section
/-! SUPPORT. The laws of the register file (rules R41 to R49). -/

namespace Sys2Proof.Machine

/-- Register numbers index the stages injectively. -/
theorem reg_index_ne {i j : Reg} (h : i ≠ j) : i.toNat ≠ j.toNat := fun e => h (BitVec.eq_of_toNat_eq e)

@[simp] theorem RegFile.get_zero (f : RegFile) : f.get 0#5 = 0#32 := rfl

theorem RegFile.get_of_ne_zero (f : RegFile) {i : Reg} (h : i ≠ 0#5) : f.get i = f.stage3[i.toNat] := by
  simp [RegFile.get, h]

@[simp] theorem RegFile.set_zero (f : RegFile) (v : Word) : f.set 0#5 v = f := rfl

@[simp] theorem RegFile.setLate_zero (f : RegFile) (v : Word) : f.setLate 0#5 v = f := rfl

/-- A stage entry after a non-delayed write (rule R42). -/
theorem RegFile.set_stage3 (f : RegFile) (i j : Reg) (v : Word) :
    (f.set i v).stage3[j.toNat] = if j = i ∧ j ≠ 0#5 then v else f.stage3[j.toNat] := by
  by_cases hi : i = 0#5
  · subst hi
    rw [RegFile.set_zero, if_neg (fun h => h.2 h.1)]
  · by_cases hj : j = i
    · subst hj; simp [RegFile.set, hi]
    · have : i.toNat ≠ j.toNat := reg_index_ne fun e => hj e.symm
      simp [RegFile.set, hi, hj, this]

/-- A stage entry after a non-delayed write (rule R42). -/
theorem RegFile.set_stage2 (f : RegFile) (i j : Reg) (v : Word) :
    (f.set i v).stage2[j.toNat] = if j = i ∧ j ≠ 0#5 then v else f.stage2[j.toNat] := by
  by_cases hi : i = 0#5
  · subst hi
    rw [RegFile.set_zero, if_neg (fun h => h.2 h.1)]
  · by_cases hj : j = i
    · subst hj; simp [RegFile.set, hi]
    · have : i.toNat ≠ j.toNat := reg_index_ne fun e => hj e.symm
      simp [RegFile.set, hi, hj, this]

/-- A stage entry after a non-delayed write (rule R42). -/
theorem RegFile.set_stage1 (f : RegFile) (i j : Reg) (v : Word) :
    (f.set i v).stage1[j.toNat] = if j = i ∧ j ≠ 0#5 then v else f.stage1[j.toNat] := by
  by_cases hi : i = 0#5
  · subst hi
    rw [RegFile.set_zero, if_neg (fun h => h.2 h.1)]
  · by_cases hj : j = i
    · subst hj; simp [RegFile.set, hi]
    · have : i.toNat ≠ j.toNat := reg_index_ne fun e => hj e.symm
      simp [RegFile.set, hi, hj, this]

/-- A stage entry after a delayed write (rule R43). -/
theorem RegFile.setLate_stage1 (f : RegFile) (i j : Reg) (v : Word) :
    (f.setLate i v).stage1[j.toNat] = if j = i ∧ j ≠ 0#5 then v else f.stage1[j.toNat] := by
  by_cases hi : i = 0#5
  · subst hi
    rw [RegFile.setLate_zero, if_neg (fun h => h.2 h.1)]
  · by_cases hj : j = i
    · subst hj; simp [RegFile.setLate, hi]
    · have : i.toNat ≠ j.toNat := reg_index_ne fun e => hj e.symm
      simp [RegFile.setLate, hi, hj, this]

@[simp] theorem RegFile.setLate_stage2 (f : RegFile) (i : Reg) (v : Word) : (f.setLate i v).stage2 = f.stage2 := by
  unfold RegFile.setLate; split <;> rfl

@[simp] theorem RegFile.setLate_stage3 (f : RegFile) (i : Reg) (v : Word) : (f.setLate i v).stage3 = f.stage3 := by
  unfold RegFile.setLate; split <;> rfl

@[simp] theorem RegFile.tick_stage1 (f : RegFile) : f.tick.stage1 = f.stage1 := rfl
@[simp] theorem RegFile.tick_stage2 (f : RegFile) : f.tick.stage2 = f.stage1 := rfl
@[simp] theorem RegFile.tick_stage3 (f : RegFile) : f.tick.stage3 = f.stage2 := rfl

end Sys2Proof.Machine
end

