-- ==== Sys2Proof/Laws/Step.lean ====
section
/-! SUPPORT. What one instruction and one step can do, said once: every next state is an exception entry from the state
before, or a retire of one of the effects listed in `Effect`. Invariants are proved from these lemmas. -/

namespace Sys2Proof.Machine

/-! ### How the shared endings answer -/

@[simp] theorem raise_eq (e : Exc) (s : State) : raise e s = .next (s.enter e) := rfl
@[simp] theorem complete_eq (s : State) : complete s = .next (s.retire false none) := rfl
@[simp] theorem completeBranch_eq (g : Option Word) (s : State) : completeBranch g s = .next (s.retire true g) := rfl

@[simp] theorem afterAccess_done {α : Type} (v : α) (u s : State) (go : α → State → Result) :
    afterAccess (.done v u) s go = go v u := rfl
@[simp] theorem afterAccess_raised {α : Type} (e : Exc) (s : State) (go : α → State → Result) :
    afterAccess (.raised e) s go = .next (s.enter e) := rfl
@[simp] theorem afterAccess_refused {α : Type} (r : Refusal) (s : State) (go : α → State → Result) :
    afterAccess (.refused r) s go = .refused r := rfl

/-- What an access followed by `go` answers, when it answers a next state. -/
theorem afterAccess_next {α : Type} {a : Access α} {s t : State} {go : α → State → Result}
    (h : afterAccess a s go = .next t) :
    (∃ e, a = .raised e ∧ t = s.enter e) ∨ ∃ v u, a = .done v u ∧ go v u = .next t := by
  cases a with
  | done v u => exact .inr ⟨v, u, rfl, h⟩
  | raised e => exact .inl ⟨e, rfl, by simpa using h.symm⟩
  | refused r => simp at h

theorem whenUsable_yes {z : BitVec 2} {s : State} (h : s.copUsable z = true) (r : Result) : whenUsable z s r = r := by
  simp [whenUsable, h]

theorem whenUsable_no {z : BitVec 2} {s : State} (h : s.copUsable z = false) (r : Result) :
    whenUsable z s r = .next (s.enter (.cpU z)) := by
  simp [whenUsable, h]

/-- What a coprocessor instruction answers, when it answers a next state (rules R343, R344). -/
theorem whenUsable_next {z : BitVec 2} {s t : State} {r : Result} (h : whenUsable z s r = .next t) :
    (s.copUsable z = false ∧ t = s.enter (.cpU z)) ∨ (s.copUsable z = true ∧ r = .next t) := by
  unfold whenUsable at h
  split at h
  · rename_i hu; exact .inr ⟨hu, h⟩
  · rename_i hu; exact .inl ⟨by simpa using hu, by simpa using h.symm⟩

/-! ### The effects of instructions -/

/-- The state an instruction hands to retire, from the state `s` before it. -/
inductive Effect (s : State) : State → Prop where
  | nothing : Effect s s
  | writeReg (r : Reg) (v : Word) : Effect s (s.setX r v)
  | writeHiLo (h l : Word) : Effect s (s.setHiLo h l)
  | moveToReg (r : Reg) (v : Word) : Effect s (s.setXLate r v)
  | drawToReg (r : Reg) (v : Word) : Effect s (s.drawWord.2.setXLate r v)
  | loadReg (ls : List Loc) (r : Reg) (v : Word) : Effect s ((readBytes ls s).2.setXLate r v)
  | storeBytes (addr : Word) (n : Nat) (ls : List Loc) (v : Word) (h : translateAll s.cfg addr n = some ls) :
      Effect s (writeBytes ls v s)
  | writeCop0 (r : Reg) (v : Word) (hu : s.copUsable 0#2 = true) (hd : cop0RegOf r = .dcic → v = 0#32) :
      Effect s { s with cop0 := cop0Write r v s.cop0 }
  | returnFromException (hu : s.copUsable 0#2 = true) : Effect s s.restoreStatus
  | writeCop2d (v : Vector Word 32) : Effect s { s with cop2d := v }
  | writeCop2c (v : Vector Word 32) : Effect s { s with cop2c := v }
  | loadCop2d (ls : List Loc) (v : Vector Word 32) : Effect s { (readBytes ls s).2 with cop2d := v }

/-- `t` is an exception entry from `s`, or a retire of an effect of one instruction. -/
def Ends (s t : State) : Prop :=
  (∃ e, t = s.enter e) ∨ ∃ u b g, Effect s u ∧ t = u.retire b g

theorem Ends.retired {s u : State} {b : Bool} {g : Option Word} (h : Effect s u) : Ends s (u.retire b g) :=
  .inr ⟨u, b, g, h, rfl⟩

theorem Ends.entered (s : State) (e : Exc) : Ends s (s.enter e) := .inl ⟨e, rfl⟩

theorem writeBack_ends {rd : Reg} {v : Word} {s t : State} (h : writeBack rd v s = .next t) : Ends s t := by
  cases h; exact .retired (.writeReg rd v)

theorem writeBackOrOverflow_ends {rd : Reg} {r : Option Word} {s t : State}
    (h : writeBackOrOverflow rd r s = .next t) : Ends s t := by
  cases r with
  | none => cases h; exact .entered s _
  | some v => exact writeBack_ends h

theorem load_ends {n : Nat} {f : Word → Word} {rt rs : Reg} {imm : BitVec 16} {s t : State}
    (h : load n f rt rs imm s = .next t) : Ends s t := by
  obtain ⟨e, -, rfl⟩ | ⟨v, u, ha, hg⟩ := afterAccess_next h
  · exact .entered s e
  · obtain ⟨-, -, ls, -, -, rfl⟩ := memRead_done ha
    cases hg; exact .retired (.loadReg ls rt (f v))

theorem store_ends {n : Nat} {v : Word} {rs : Reg} {imm : BitVec 16} {s t : State}
    (h : store n v rs imm s = .next t) : Ends s t := by
  obtain ⟨e, -, rfl⟩ | ⟨_, u, ha, hg⟩ := afterAccess_next h
  · exact .entered s e
  · obtain ⟨-, ⟨-, rfl⟩ | ⟨ls, hl, rfl⟩⟩ := memWrite_done ha
    · cases hg; exact .retired .nothing
    · cases hg; exact .retired (.storeBytes _ n ls v hl)

theorem loadPartial_ends {m : Word → Word → Nat → Word} {rt rs : Reg} {imm : BitVec 16} {s t : State}
    (h : loadPartial m rt rs imm s = .next t) : Ends s t := by
  simp only [loadPartial] at h
  split at h
  · cases h; exact .entered s _
  · obtain ⟨e, -, rfl⟩ | ⟨v, u, ha, hg⟩ := afterAccess_next h
    · exact .entered s e
    · obtain ⟨-, -, ls, -, -, rfl⟩ := memRead_done ha
      cases hg; exact .retired (.loadReg ls rt _)

theorem storePartial_ends {ea addr : Word} {n : Nat} {v : Word} {s t : State}
    (h : storePartial ea addr n v s = .next t) : Ends s t := by
  simp only [storePartial] at h
  split at h
  · cases h; exact .entered s _
  · obtain ⟨e, -, rfl⟩ | ⟨_, u, ha, hg⟩ := afterAccess_next h
    · exact .entered s e
    · obtain ⟨-, rfl⟩ | ⟨ls, hl, rfl⟩ := storeChecked_done ha
      · cases hg; exact .retired .nothing
      · cases hg; exact .retired (.storeBytes _ n ls v hl)

/-- An instruction behind a usability check ends as its body does, or with CpU. -/
theorem whenUsable_ends {z : BitVec 2} {s t : State} {r : Result} (h : whenUsable z s r = .next t)
    (hr : s.copUsable z = true → r = .next t → Ends s t) : Ends s t := by
  obtain ⟨-, rfl⟩ | ⟨hu, hn⟩ := whenUsable_next h
  · exact .entered s _
  · exact hr hu hn

/-- What MFC0 reads leaves the state alone but for a draw (rules R65 to R69). -/
theorem cop0Read_state (r : Reg) (s : State) : (cop0Read r s).2 = s ∨ (cop0Read r s).2 = s.drawWord.2 := by
  unfold cop0Read; split
  · exact .inl rfl
  · exact .inr rfl

theorem execMfc0_ends {rt rd : Reg} {s t : State} (h : execMfc0 rt rd s = .next t) : Ends s t := by
  refine whenUsable_ends h fun _ hn => ?_
  cases hn
  rcases cop0Read_state rd s with he | he
  · rw [he]; exact .retired (.moveToReg rt _)
  · rw [he]; exact .retired (.drawToReg rt _)

theorem execMtc0_ends {rt rd : Reg} {s t : State} (h : execMtc0 rt rd s = .next t) : Ends s t := by
  refine whenUsable_ends h fun hu hn => ?_
  split at hn
  · cases hn
  · rename_i hc
    cases hn
    exact .retired (.writeCop0 rd (s.x rt) hu fun hd => by by_contra hv; exact hc ⟨hd, hv⟩)

/-- A coprocessor instruction that is refused wherever it is usable ends only with CpU. -/
theorem whenUsable_refused_ends {z : BitVec 2} {s t : State} {r : Refusal}
    (h : whenUsable z s (.refused r) = .next t) : Ends s t :=
  whenUsable_ends h fun _ hn => by cases hn

/-- EVERY INSTRUCTION: a next state is an exception entry or a retire of a listed effect. -/
theorem exec_ends {i : Instr} {s t : State} (h : exec i s = .next t) : Ends s t := by
  cases i with
  | add | sub | addi => exact writeBackOrOverflow_ends h
  | jr | j | bltz | bgez | beq | bne | blez | bgtz => cases h; exact .retired .nothing
  | jalr | jal | bltzal | bgezal => cases h; exact .retired (.writeReg _ _)
  | syscall | brk => cases h; exact .entered s _
  | mthi | mtlo | mult | multu | div | divu => cases h; exact .retired (.writeHiLo _ _)
  | lb | lh | lw | lbu | lhu => exact load_ends h
  | lwl | lwr => exact loadPartial_ends h
  | sb | sh | sw => exact store_ends h
  | swl | swr => exact storePartial_ends h
  | mfc0 => exact execMfc0_ends h
  | mtc0 => exact execMtc0_ends h
  | rfe => exact whenUsable_ends h fun hu hn => by cases hn; exact .retired (.returnFromException hu)
  | cfc0 | ctc0 | bc0f | bc0t | cop0 | lwc0 | swc0 | bc2f | bc2t | cop2 | cop1 | lwc1 | swc1 | cop3 | lwc3 | swc3 =>
    exact whenUsable_refused_ends h
  | mfc2 | cfc2 => exact whenUsable_ends h fun _ hn => by cases hn; exact .retired (.moveToReg _ _)
  | mtc2 => exact whenUsable_ends h fun _ hn => by cases hn; exact .retired (.writeCop2d _)
  | ctc2 => exact whenUsable_ends h fun _ hn => by cases hn; exact .retired (.writeCop2c _)
  | lwc2 =>
    refine whenUsable_ends h fun _ hn => ?_
    obtain ⟨e, -, rfl⟩ | ⟨v, u, ha, hg⟩ := afterAccess_next hn
    · exact .entered s e
    · obtain ⟨-, -, ls, -, -, rfl⟩ := memRead_done ha
      cases hg; exact .retired (.loadCop2d ls _)
  | swc2 => exact whenUsable_ends h fun _ hn => store_ends hn
  | sll | srl | sra | sllv | srlv | srav | mfhi | mflo | addu | subu | and | or | xor | nor | slt | sltu | addiu | slti
  | sltiu | andi | ori | xori | lui => exact writeBack_ends h

/-- A word that is no instruction of the table never retires: it raises or is refused (rules R173 to R175). -/
theorem rejectWord_next {r : Reject} {s t : State} (h : rejectWord r s = .next t) : ∃ e, t = s.enter e := by
  unfold rejectWord at h
  split at h
  · cases h; exact ⟨_, rfl⟩
  · cases h
  all_goals
    obtain ⟨-, rfl⟩ | ⟨-, hn⟩ := whenUsable_next h
    · exact ⟨_, rfl⟩
    · first
      | (cases hn; exact ⟨_, rfl⟩)
      | cases hn

/-- ONE STEP: an interrupt, a fetch exception, or an exception or an effect of the fetched word (rule R400). -/
theorem step_ends {s t : State} (h : step s = .next t) :
    (∃ e, t = s.sampleLines.enter e) ∨
      ∃ w u, fetchWord s.sampleLines.pc s.sampleLines = .done w u ∧ Ends u t := by
  simp only [step, cycle, afterSample] at h
  split at h
  · cases h; exact .inl ⟨_, rfl⟩
  · obtain ⟨e, -, rfl⟩ | ⟨w, u, hf, hr⟩ := afterAccess_next h
    · exact .inl ⟨e, rfl⟩
    · refine .inr ⟨w, u, hf, ?_⟩
      unfold runWord at hr
      split at hr
      · exact exec_ends hr
      · obtain ⟨e, rfl⟩ := rejectWord_next hr
        exact .entered u e

/-- No step answers a fault (rule R401): `Fault` has no element. -/
theorem step_not_fault {s : State} {r : Fault} : step s ≠ .fault r := nomatch r

end Sys2Proof.Machine
end

