-- ==== Sys2Proof/Laws/Retire.lean ====
section
/-! SUPPORT. What an instruction that ends in one of the shared ways answers, said in the terms of Safety.lean, and what
the access algorithms answer on a located, unmapped, protected or isolated access. -/

namespace Sys2Proof.Machine

/-! ### Frames and the register file over a step -/

/-- A state that differs in no outside field keeps the outside. -/
theorem outsideKept_of_eq {s t : State} (hm : t.mem = s.mem) (ha : t.ioAnswers = s.ioAnswers)
    (ht : t.ioTrace = s.ioTrace) (hc : t.cfg = s.cfg) (hi : t.intLines = s.intLines)
    (hl : t.lineInputs = s.lineInputs) (hd : t.draws = s.draws) : OutsideKept s t :=
  ⟨fun a _ => by rw [hm], ⟨ha, ht⟩, ⟨hc, hi, hl⟩, hd⟩

theorem oneReg_getD (rd r : Reg) (v w : Word) : (oneReg rd v r).getD w = if r = rd ∧ r ≠ 0#5 then v else w := by
  unfold oneReg; split <;> rfl

/-- A non-delayed write and a tick (rules R42, R44). -/
theorem regsStepped_set {s t : State} {rd : Reg} {v : Word} (h : t.regs = (s.regs.set rd v).tick) :
    RegsStepped s t (oneReg rd v) noReg := by
  intro r
  rw [h]
  refine ⟨?_, ?_, ?_⟩
  · exact (RegFile.set_stage2 s.regs rd r v).trans (oneReg_getD ..).symm
  all_goals
    refine (RegFile.set_stage1 s.regs rd r v).trans ?_
    rw [show noReg r = none from rfl, Option.or_none]
    exact (oneReg_getD ..).symm

/-- A delayed write and a tick (rules R43, R44). -/
theorem regsStepped_setLate {s t : State} {rd : Reg} {v : Word} (h : t.regs = (s.regs.setLate rd v).tick) :
    RegsStepped s t noReg (oneReg rd v) := by
  intro r
  rw [h]
  refine ⟨?_, ?_, ?_⟩
  · show (s.regs.setLate rd v).stage2[r.toNat] = s.regs.stage2[r.toNat]
    unfold RegFile.setLate; split <;> rfl
  all_goals
    refine (RegFile.setLate_stage1 s.regs rd r v).trans ?_
    rw [show noReg r = none from rfl, Option.none_or]
    exact (oneReg_getD ..).symm

/-- A tick alone (rule R44). -/
theorem regsStepped_tick {s t : State} (h : t.regs = s.regs.tick) : RegsStepped s t noReg noReg := by
  intro r; rw [h]; exact ⟨rfl, rfl, rfl⟩

/-! ### Instructions by how they end -/

theorem yields_writing {i : Instr} {s : State} {rd : Reg} {v : Word} (h : exec i s = writeBack rd v s) :
    Yields i s (fun t => RetiresWriting s t rd v) :=
  ⟨_, h, ⟨rfl, rfl, rfl, rfl⟩, regsStepped_set rfl, ⟨rfl, rfl⟩, rfl, ⟨rfl, rfl⟩,
    outsideKept_of_eq rfl rfl rfl rfl rfl rfl rfl⟩

theorem yields_loading {i : Instr} {s u : State} {rt : Reg} {v : Word} (h : exec i s = complete (u.setXLate rt v)) :
    Yields i s (fun t => RetiresLoading u t rt v) :=
  ⟨_, h, ⟨rfl, rfl, rfl, rfl⟩, regsStepped_setLate rfl, ⟨rfl, rfl⟩, rfl, ⟨rfl, rfl⟩,
    outsideKept_of_eq rfl rfl rfl rfl rfl rfl rfl⟩

theorem yields_hiLo {i : Instr} {s : State} {hi lo : Word} (h : exec i s = complete (s.setHiLo hi lo)) :
    Yields i s (fun t => RetiresHiLo s t hi lo) :=
  ⟨_, h, ⟨rfl, rfl, rfl, rfl⟩, regsStepped_tick rfl, ⟨rfl, rfl⟩, rfl, ⟨rfl, rfl⟩,
    outsideKept_of_eq rfl rfl rfl rfl rfl rfl rfl⟩

theorem yields_branch {i : Instr} {s : State} {g : Option Word} (h : exec i s = completeBranch g s) :
    Yields i s (fun t => RetiresBranch s t g noReg) :=
  ⟨_, h, ⟨rfl, rfl, rfl, rfl⟩, regsStepped_tick rfl, ⟨rfl, rfl⟩, rfl, ⟨rfl, rfl⟩,
    outsideKept_of_eq rfl rfl rfl rfl rfl rfl rfl⟩

theorem yields_link {i : Instr} {s : State} {g : Option Word} {rd : Reg} {v : Word}
    (h : exec i s = completeBranch g (s.setX rd v)) : Yields i s (fun t => RetiresBranch s t g (oneReg rd v)) :=
  ⟨_, h, ⟨rfl, rfl, rfl, rfl⟩, regsStepped_set rfl, ⟨rfl, rfl⟩, rfl, ⟨rfl, rfl⟩,
    outsideKept_of_eq rfl rfl rfl rfl rfl rfl rfl⟩

theorem yields_quietly {i : Instr} {s u : State} (h : exec i s = complete u) : Yields i s (RetiresQuietly u) :=
  ⟨_, h, ⟨rfl, rfl, rfl, rfl⟩, regsStepped_tick rfl, ⟨rfl, rfl⟩, rfl, ⟨rfl, rfl⟩,
    outsideKept_of_eq rfl rfl rfl rfl rfl rfl rfl⟩

theorem yields_cop0 {i : Instr} {s : State} {c : Cop0} (h : exec i s = complete { s with cop0 := c }) :
    Yields i s (fun t => RetiresCop0 s t c) :=
  ⟨_, h, ⟨rfl, rfl, rfl, rfl⟩, regsStepped_tick rfl, ⟨rfl, rfl⟩, rfl, ⟨rfl, rfl⟩,
    outsideKept_of_eq rfl rfl rfl rfl rfl rfl rfl⟩

/-! ### Usability, in the terms of rule R343 -/

theorem copUsable_zero (s : State) : s.copUsable 0#2 = true ↔ Cop0Usable s := by
  simp [State.copUsable, Cop0Usable, State.userMode, State.copEnabled]

theorem copUsable_two (s : State) : s.copUsable 2#2 = true ↔ Cop2Usable s := by
  simp [State.copUsable, Cop2Usable, State.copEnabled]

/-! ### Accesses (rules R117, R120, R125 to R129) -/

theorem userMode_and_iff (s : State) (a : Word) : (s.userMode && a.getLsbD 31) = true ↔ Protected s a := by
  simp [Protected, State.userMode]

theorem addressCheck_bad {k : AccessKind} {a : Word} {n : Nat} {s : State} (h : a.toNat % n ≠ 0 ∨ Protected s a) :
    addressCheck k a n s = some (addressError k a) := by
  unfold addressCheck
  split
  · rfl
  · rename_i hn
    exact if_pos ((userMode_and_iff s a).mpr (h.resolve_left hn))

theorem addressCheck_good {k : AccessKind} {a : Word} {n : Nat} {s : State} (h : a.toNat % n = 0)
    (hp : ¬ Protected s a) : addressCheck k a n s = none := by
  unfold addressCheck
  rw [if_neg (by simpa using h), if_neg (by rwa [userMode_and_iff])]

theorem translateAll_unmapped {c : Config} {a : Word} {n : Nat} (h : Unmapped c a n) : translateAll c a n = none := by
  obtain ⟨j, hj, hn⟩ := h
  exact translateAll_none hj hn

/-- A located access is translated to its bytes. -/
theorem translateAll_located {c : Config} {a : Word} {ls : List Loc} (h : Located c a ls) :
    translateAll c a ls.length = some ls := by
  induction ls generalizing a with
  | nil => rfl
  | cons l ls ih =>
    unfold Located at h
    simp only [List.map_cons, List.length_cons, List.range_succ_eq_map, List.map_map, List.cons.injEq] at h
    rw [List.length_cons]
    refine (translateAll_succ ..).mpr ⟨l, ls, by simpa using h.1.symm, ih ?_, rfl⟩
    unfold Located
    rw [h.2]
    exact List.map_congr_left fun j _ => by simp only [Function.comp]; rw [add_ofNat_succ]

theorem readByte_readsByte (s : State) (l : Loc) : ReadsByte s l (readByte l s).1 (readByte l s).2 := by
  unfold ReadsByte readByte
  split
  · rename_i h
    refine .inr ⟨h, ?_⟩
    unfold State.ioRead Answered
    cases hq : s.ioAnswers with
    | nil => simp
    | cons b rest => exact .inl ⟨rest, rfl, rfl⟩
  all_goals
    rename_i h
    exact .inl ⟨by rw [h]; decide, rfl, rfl⟩

theorem readBytes_readsBytes (ls : List Loc) (s : State) :
    ReadsBytes s ls (readBytes ls s).1 (readBytes ls s).2 := by
  induction ls generalizing s with
  | nil => exact ⟨rfl, rfl⟩
  | cons l ls ih => exact ⟨_, _, _, rfl, readByte_readsByte s l, ih _⟩

theorem writeByte_storesByte (s : State) (l : Loc) (b : Byte) : StoresByte s l b (writeByte l b s) := by
  have same := fun h => writeByte_byte_same (l := l) h b s
  have other := fun (a : Nat) h => writeByte_byte_other (l := l) (s := s) (a := a) b h
  obtain ⟨r, o⟩ := l
  unfold StoresByte
  cases r <;> first
    | rfl
    | exact ⟨rfl, same ⟨by simp, by simp⟩, fun a ha => other a fun _ => ha⟩

theorem memRead_bad {a : Word} {n : Nat} {s : State} (h : a.toNat % n ≠ 0 ∨ Protected s a) :
    memRead a n s = .raised (.adEL a) := by
  unfold memRead; rw [addressCheck_bad h]; rfl

theorem memRead_isolated {a : Word} {n : Nat} {s : State} (h : a.toNat % n = 0) (hp : ¬ Protected s a)
    (hi : Isolated s) : memRead a n s = .refused .isolatedCacheLoad := by
  unfold memRead; rw [addressCheck_good h hp]; exact if_pos hi

theorem memRead_unmapped {a : Word} {n : Nat} {s : State} (h : a.toNat % n = 0) (hp : ¬ Protected s a)
    (hi : ¬ Isolated s) (hu : Unmapped s.cfg a n) : memRead a n s = .raised (.dbe a) := by
  unfold memRead; rw [addressCheck_good h hp]
  refine (if_neg hi).trans ?_
  rw [translateAll_unmapped hu]

theorem memRead_located {a : Word} {n : Nat} {s : State} {ls : List Loc} (h : a.toNat % n = 0)
    (hp : ¬ Protected s a) (hi : ¬ Isolated s) (hl : Located s.cfg a ls) (hn : ls.length = n) :
    memRead a n s = .done (littleEndian (readBytes ls s).1) (readBytes ls s).2 := by
  subst hn
  unfold memRead; rw [addressCheck_good h hp]
  refine (if_neg hi).trans ?_
  rw [translateAll_located hl]

theorem memWrite_bad {a v : Word} {n : Nat} {s : State} (h : a.toNat % n ≠ 0 ∨ Protected s a) :
    memWrite a n v s = .raised (.adES a) := by
  unfold memWrite; rw [addressCheck_bad h]; rfl

theorem memWrite_good {a v : Word} {n : Nat} {s : State} (h : a.toNat % n = 0) (hp : ¬ Protected s a) :
    memWrite a n v s = storeChecked a n v s := by
  unfold memWrite; rw [addressCheck_good h hp]

theorem storeChecked_isolated {a v : Word} {n : Nat} {s : State} (hi : Isolated s) :
    storeChecked a n v s = .done () s := if_pos hi

theorem storeChecked_unmapped {a v : Word} {n : Nat} {s : State} (hi : ¬ Isolated s) (hu : Unmapped s.cfg a n) :
    storeChecked a n v s = .raised (.dbe a) := by
  refine (if_neg hi).trans ?_
  rw [translateAll_unmapped hu]

theorem storeChecked_located {a v : Word} {n : Nat} {s : State} {ls : List Loc} (hi : ¬ Isolated s)
    (hl : Located s.cfg a ls) (hn : ls.length = n) : storeChecked a n v s = .done () (writeBytes ls v s) := by
  subst hn
  refine (if_neg hi).trans ?_
  rw [translateAll_located hl]

end Sys2Proof.Machine
end

