-- ==== Sys2Proof/Tests/Slice0.lean ====
section
/-! SUPPORT. Tests of the model on words and values the spec gives, the WellFormed smoke test, and, for each statement
with hypotheses, a concrete state and operands that meet them. -/

namespace Sys2Proof.Tests

open Sys2Proof.Machine

/-! ### Well-formedness -/

/-- RFE's function number is no other COP0 function (rules R349, R350). -/
theorem test_wf_refuses_rfe_as_cop0 : (Instr.cop0 0x10).wf = false ∧ (Instr.cop0 0x1FFFFD0).wf = false := by decide
theorem test_wf_accepts_others : (Instr.cop0 0x01).wf = true ∧ (Instr.sll 31 31 31).wf = true := by decide

/-! ### Decoding: the example words of the instruction rules -/

theorem test_decode_shifts :
    decodeTableWord 32 0x00031100 = some (.sll 2 3 4) ∧ decodeTableWord 32 0x00031102 = some (.srl 2 3 4) ∧
    decodeTableWord 32 0x00031103 = some (.sra 2 3 4) ∧ decodeTableWord 32 0x00831004 = some (.sllv 2 3 4) ∧
    decodeTableWord 32 0x00831006 = some (.srlv 2 3 4) ∧ decodeTableWord 32 0x00831007 = some (.srav 2 3 4) := by
  decide
theorem test_decode_register_jumps_and_traps :
    decodeTableWord 32 0x03E00008 = some (.jr 31) ∧ decodeTableWord 32 0x0080F809 = some (.jalr 31 4) ∧
    decodeTableWord 32 0x0000000C = some (.syscall 0) ∧ decodeTableWord 32 0x0000000D = some (.brk 0) ∧
    decodeTableWord 32 0x0000004D = some (.brk 1) := by
  decide
theorem test_decode_hi_lo :
    decodeTableWord 32 0x00001010 = some (.mfhi 2) ∧ decodeTableWord 32 0x00400011 = some (.mthi 2) ∧
    decodeTableWord 32 0x00001012 = some (.mflo 2) ∧ decodeTableWord 32 0x00400013 = some (.mtlo 2) ∧
    decodeTableWord 32 0x00850018 = some (.mult 4 5) ∧ decodeTableWord 32 0x00850019 = some (.multu 4 5) ∧
    decodeTableWord 32 0x0085001A = some (.div 4 5) ∧ decodeTableWord 32 0x0085001B = some (.divu 4 5) := by
  decide
theorem test_decode_register_alu :
    decodeTableWord 32 0x00221820 = some (.add 3 1 2) ∧ decodeTableWord 32 0x00221821 = some (.addu 3 1 2) ∧
    decodeTableWord 32 0x00221822 = some (.sub 3 1 2) ∧ decodeTableWord 32 0x00221823 = some (.subu 3 1 2) ∧
    decodeTableWord 32 0x00221824 = some (.and 3 1 2) ∧ decodeTableWord 32 0x00221825 = some (.or 3 1 2) ∧
    decodeTableWord 32 0x00221826 = some (.xor 3 1 2) ∧ decodeTableWord 32 0x00221827 = some (.nor 3 1 2) ∧
    decodeTableWord 32 0x0022182A = some (.slt 3 1 2) ∧ decodeTableWord 32 0x0022182B = some (.sltu 3 1 2) := by
  decide
theorem test_decode_branches :
    decodeTableWord 32 0x04200004 = some (.bltz 1 4) ∧ decodeTableWord 32 0x0421FFFF = some (.bgez 1 0xFFFF) ∧
    decodeTableWord 32 0x04300004 = some (.bltzal 1 4) ∧ decodeTableWord 32 0x07F10002 = some (.bgezal 31 2) ∧
    decodeTableWord 32 0x08008000 = some (.j 0x8000) ∧ decodeTableWord 32 0x0C008000 = some (.jal 0x8000) ∧
    decodeTableWord 32 0x10220003 = some (.beq 1 2 3) ∧ decodeTableWord 32 0x14220003 = some (.bne 1 2 3) ∧
    decodeTableWord 32 0x1820FFFC = some (.blez 1 0xFFFC) ∧ decodeTableWord 32 0x1C200001 = some (.bgtz 1 1) := by
  decide
theorem test_decode_immediates :
    decodeTableWord 32 0x20217FFF = some (.addi 1 1 0x7FFF) ∧ decodeTableWord 32 0x24217FFF = some (.addiu 1 1 0x7FFF) ∧
    decodeTableWord 32 0x28210000 = some (.slti 1 1 0) ∧ decodeTableWord 32 0x2C210000 = some (.sltiu 1 1 0) ∧
    decodeTableWord 32 0x3022FF00 = some (.andi 2 1 0xFF00) ∧ decodeTableWord 32 0x34228001 = some (.ori 2 1 0x8001) ∧
    decodeTableWord 32 0x3822FFFF = some (.xori 2 1 0xFFFF) ∧ decodeTableWord 32 0x3C028001 = some (.lui 2 0x8001) := by
  decide
theorem test_decode_memory :
    decodeTableWord 32 0x80220002 = some (.lb 2 1 2) ∧ decodeTableWord 32 0x84220002 = some (.lh 2 1 2) ∧
    decodeTableWord 32 0x88220001 = some (.lwl 2 1 1) ∧ decodeTableWord 32 0x8C220000 = some (.lw 2 1 0) ∧
    decodeTableWord 32 0x90220002 = some (.lbu 2 1 2) ∧ decodeTableWord 32 0x94220002 = some (.lhu 2 1 2) ∧
    decodeTableWord 32 0x98220001 = some (.lwr 2 1 1) ∧ decodeTableWord 32 0xA0220001 = some (.sb 2 1 1) ∧
    decodeTableWord 32 0xA4220002 = some (.sh 2 1 2) ∧ decodeTableWord 32 0xA8220001 = some (.swl 2 1 1) ∧
    decodeTableWord 32 0xAC220004 = some (.sw 2 1 4) ∧ decodeTableWord 32 0xB8220001 = some (.swr 2 1 1) := by
  decide
theorem test_decode_cop0 :
    decodeTableWord 32 0x40036000 = some (.mfc0 3 12) ∧ decodeTableWord 32 0x40426000 = some (.cfc0 2 12) ∧
    decodeTableWord 32 0x40826000 = some (.mtc0 2 12) ∧ decodeTableWord 32 0x40C26000 = some (.ctc0 2 12) ∧
    decodeTableWord 32 0x41000002 = some (.bc0f 2) ∧ decodeTableWord 32 0x41010002 = some (.bc0t 2) ∧
    decodeTableWord 32 0x42000010 = some .rfe ∧ decodeTableWord 32 0x42000001 = some (.cop0 1) ∧
    decodeTableWord 32 0xC0250000 = some (.lwc0 5 1 0) ∧ decodeTableWord 32 0xE0250000 = some (.swc0 5 1 0) := by
  decide
theorem test_decode_cop2_and_absent :
    decodeTableWord 32 0x48022800 = some (.mfc2 2 5) ∧ decodeTableWord 32 0x48422800 = some (.cfc2 2 5) ∧
    decodeTableWord 32 0x48822800 = some (.mtc2 2 5) ∧ decodeTableWord 32 0x48C22800 = some (.ctc2 2 5) ∧
    decodeTableWord 32 0x49000002 = some (.bc2f 2) ∧ decodeTableWord 32 0x49010002 = some (.bc2t 2) ∧
    decodeTableWord 32 0x4A180001 = some (.cop2 0x180001) ∧ decodeTableWord 32 0xC8250000 = some (.lwc2 5 1 0) ∧
    decodeTableWord 32 0xE8250004 = some (.swc2 5 1 4) ∧ decodeTableWord 32 0x44000000 = some (.cop1 0) ∧
    decodeTableWord 32 0xC4250000 = some (.lwc1 5 1 0) ∧ decodeTableWord 32 0xE4250000 = some (.swc1 5 1 0) ∧
    decodeTableWord 32 0x4C000000 = some (.cop3 0) ∧ decodeTableWord 32 0xCC250000 = some (.lwc3 5 1 0) ∧
    decodeTableWord 32 0xEC250000 = some (.swc3 5 1 0) := by
  decide
/-- The reserved word of rule R424, an undefined BCOND, a reserved selector: no instruction. -/
theorem test_decode_rejects :
    decodeTableWord 32 0xFC000000 = none ∧ decodeTableWord 32 0x04020000 = none ∧
    decodeTableWord 32 0x40200000 = none ∧ decodeTableWord 32 0x00000001 = none := by
  decide
/-- A word with non-zero unused fields is the same instruction (rule R172). -/
theorem test_decode_ignores_unused : decodeTableWord 32 0x03FFFFC8 = some (.jr 31) ∧
    decodeTableWord 32 0x00221FE0 = some (.add 3 1 2) := by decide

/-! ### Small states -/

/-- Kernel mode, BEV = 0, at 0x80010000, every register 0. -/
def base : State := { State.reset with pc := 0x80010000#32, npc := 0x80010004#32, cop0 := { State.reset.cop0 with sr := 0#32 } }

/-- Registers with settled values. -/
def withRegs : List (Reg × Word) → State → State
  | [], s => s
  | (r, v) :: rest, s => withRegs rest (s.setX r v)

/-- A status word. -/
def withSr (v : Word) (s : State) : State := { s with cop0 := { s.cop0 with sr := v } }

/-- The bytes of rule R310 at physical 0x1000. -/
def withData (s : State) : State :=
  { s with
    mem := [(0x1000, 0x01#8), (0x1001, 0x7F#8), (0x1002, 0xFF#8), (0x1003, 0x80#8), (0x1004, 0x55#8), (0x1005, 0x66#8),
      (0x1006, 0x77#8), (0x1007, 0x88#8)] }

/-- Rule R310's state: $1 = 0x80001000, $2 = 0x11223344 and the bytes. -/
def data : State := withRegs [(1, 0x80001000#32), (2, 0x11223344#32)] (withData base)

/-- The state after an instruction that does not stop. -/
def after (i : Instr) (s : State) : Option State :=
  match exec i s with
  | .next t => some t
  | .fault _ => none
  | .refused _ => none

/-- What a register will show once its delayed write has arrived. -/
def gpr (r : Reg) (t : State) : Word := t.regs.stage2[r.toNat]

/-- How the instruction ended and what it left in a register. -/
def result (i : Instr) (r : Reg) (s : State) : Option (Option StepEnd × Word) := (after i s).map fun t => (t.lastStep, gpr r t)

/-- The four bytes at physical 0x1000 or 0x1004 after an instruction, as a word. -/
def wordAfter (a : Nat) (i : Instr) (s : State) : Option Word :=
  (after i s).map fun t => wordOfBytes (Memory.byte t.mem a) (Memory.byte t.mem (a + 1)) (Memory.byte t.mem (a + 2))
    (Memory.byte t.mem (a + 3))

/-- The retired result. -/
def ok (v : Word) : Option (Option StepEnd × Word) := some (some .retired, v)

/-! ### The SPECIAL family (examples of rules R205 to R232) -/

theorem test_sll : result (.sll 2 3 4) 2 (withRegs [(3, 0x80000001)] base) = ok 0x00000010 := by decide
theorem test_srl : result (.srl 2 3 4) 2 (withRegs [(3, 0x80000010)] base) = ok 0x08000001 := by decide
theorem test_sra : result (.sra 2 3 4) 2 (withRegs [(3, 0x80000010)] base) = ok 0xF8000001 := by decide
theorem test_sllv : result (.sllv 2 3 4) 2 (withRegs [(3, 1), (4, 33)] base) = ok 2 := by decide
theorem test_srlv : result (.srlv 2 3 4) 2 (withRegs [(3, 0x80000000), (4, 31)] base) = ok 1 := by decide
theorem test_srav : result (.srav 2 3 4) 2 (withRegs [(3, 0x80000000), (4, 31)] base) = ok 0xFFFFFFFF := by decide
theorem test_add_overflows : result (.add 3 1 2) 3 (withRegs [(1, 0x7FFFFFFF), (2, 1), (3, 9)] base) =
    some (some (.excepted 12), 9) := by decide
theorem test_add : result (.add 3 1 2) 3 (withRegs [(1, 0xFFFFFFFF), (2, 5)] base) = ok 4 := by decide
theorem test_addu : result (.addu 3 1 2) 3 (withRegs [(1, 0x7FFFFFFF), (2, 1)] base) = ok 0x80000000 := by decide
theorem test_sub_overflows : result (.sub 3 1 2) 3 (withRegs [(1, 0x80000000), (2, 1)] base) =
    some (some (.excepted 12), 0) := by decide
theorem test_sub : result (.sub 3 1 2) 3 (withRegs [(1, 3), (2, 5)] base) = ok 0xFFFFFFFE := by decide
theorem test_subu : result (.subu 3 1 2) 3 (withRegs [(1, 0), (2, 1)] base) = ok 0xFFFFFFFF := by decide
theorem test_and : result (.and 3 1 2) 3 (withRegs [(1, 0xF0F0), (2, 0xFF00)] base) = ok 0xF000 := by decide
theorem test_or : result (.or 3 1 2) 3 (withRegs [(1, 0xF0F0), (2, 0xFF00)] base) = ok 0xFFF0 := by decide
theorem test_xor : result (.xor 3 1 2) 3 (withRegs [(1, 0xF0F0), (2, 0xFF00)] base) = ok 0x0FF0 := by decide
theorem test_nor : result (.nor 3 1 2) 3 (withRegs [(1, 0xF0F0), (2, 0xFF00)] base) = ok 0xFFFF000F := by decide
theorem test_slt : result (.slt 3 1 2) 3 (withRegs [(1, 0xFFFFFFFF), (2, 1)] base) = ok 1 := by decide
theorem test_sltu : result (.sltu 3 1 2) 3 (withRegs [(1, 0xFFFFFFFF), (2, 1)] base) = ok 0 := by decide
/-- A write to $0 is discarded (rule R46). -/
theorem test_zero : result (.addu 0 1 1) 0 (withRegs [(1, 7)] base) = ok 0 := by decide

/-! ### HI and LO (examples of rules R215 to R222) -/

theorem test_mfhi : result (.mfhi 2) 2 { base with hi := 0xAAAA } = ok 0xAAAA := by decide
theorem test_mflo : result (.mflo 2) 2 { base with lo := 0xBBBB } = ok 0xBBBB := by decide
theorem test_mthi : (after (.mthi 2) (withRegs [(2, 0x1234)] { base with lo := 5 })).map (fun t => (t.hi, t.lo)) =
    some (0x1234, 5) := by decide
theorem test_mtlo : (after (.mtlo 2) (withRegs [(2, 0x5678)] { base with hi := 5 })).map (fun t => (t.hi, t.lo)) =
    some (5, 0x5678) := by decide
theorem test_mult : (after (.mult 4 5) (withRegs [(4, 0xFFFFFFFF), (5, 2)] base)).map (fun t => (t.hi, t.lo)) =
    some (0xFFFFFFFF, 0xFFFFFFFE) := by decide
theorem test_multu : (after (.multu 4 5) (withRegs [(4, 0xFFFFFFFF), (5, 0xFFFFFFFF)] base)).map
    (fun t => (t.hi, t.lo)) = some (0xFFFFFFFE, 0x00000001) := by decide
theorem test_div : (after (.div 4 5) (withRegs [(4, 0xFFFFFFF9), (5, 2)] base)).map (fun t => (t.hi, t.lo)) =
    some (0xFFFFFFFF, 0xFFFFFFFD) := by decide
theorem test_div_corner : (after (.div 4 5) (withRegs [(4, 0x80000000), (5, 0xFFFFFFFF)] base)).map
    (fun t => (t.hi, t.lo)) = some (0, 0x80000000) := by decide
theorem test_divu_by_zero : (after (.divu 4 5) (withRegs [(4, 7)] base)).map (fun t => (t.hi, t.lo)) =
    some (7, 0xFFFFFFFF) := by decide
theorem test_divu : (after (.divu 4 5) (withRegs [(4, 0xFFFFFFFF), (5, 16)] base)).map (fun t => (t.hi, t.lo)) =
    some (15, 0x0FFFFFFF) := by decide

/-! ### Control transfer (examples of rules R211, R212, R262 to R271) -/

/-- pc, npc, bd and $31 after an instruction. -/
def flow (i : Instr) (s : State) : Option (Word × Word × Bool × Word) := (after i s).map fun t => (t.pc, t.npc, t.bd, gpr 31 t)

theorem test_jr : flow (.jr 31) (withRegs [(31, 0x80020000)] base) =
    some (0x80010004, 0x80020000, true, 0x80020000) := by decide
theorem test_jalr : flow (.jalr 31 4) (withRegs [(4, 0x80030000)] base) =
    some (0x80010004, 0x80030000, true, 0x80010008) := by decide
theorem test_bltz : flow (.bltz 1 4) (withRegs [(1, 0xFFFFFFFF)] base) =
    some (0x80010004, 0x80010014, true, 0) := by decide
theorem test_bgez : flow (.bgez 1 0xFFFF) base = some (0x80010004, 0x80010000, true, 0) := by decide
theorem test_bltzal : flow (.bltzal 1 4) (withRegs [(1, 5)] base) =
    some (0x80010004, 0x80010008, true, 0x80010008) := by decide
theorem test_bgezal : flow (.bgezal 31 2) (withRegs [(31, 0x10)] base) =
    some (0x80010004, 0x8001000C, true, 0x80010008) := by decide
theorem test_beq : flow (.beq 1 2 3) (withRegs [(1, 7), (2, 7)] base) = some (0x80010004, 0x80010010, true, 0) := by
  decide
theorem test_bne : flow (.bne 1 2 3) (withRegs [(1, 7), (2, 7)] base) = some (0x80010004, 0x80010008, true, 0) := by
  decide
theorem test_blez : flow (.blez 1 0xFFFC) base = some (0x80010004, 0x8000FFF4, true, 0) := by decide
theorem test_bgtz : flow (.bgtz 1 1) (withRegs [(1, 0x80000000)] base) =
    some (0x80010004, 0x80010008, true, 0) := by decide
theorem test_j : flow (.j 0x8000) base = some (0x80010004, 0x80020000, true, 0) := by decide
/-- Rule R270's corner: J as the last word of a block. -/
theorem test_j_corner : flow (.j 0x10) { base with pc := 0x8FFFFFFC, npc := 0x90000000 } =
    some (0x90000000, 0x90000040, true, 0) := by decide
theorem test_jal : flow (.jal 0x8000) base = some (0x80010004, 0x80020000, true, 0x80010008) := by decide

/-- EPC, CAUSE, SR and pc after an instruction. -/
def entry (i : Instr) (s : State) : Option (Word × Word × Word × Word) :=
  (after i s).map fun t => (t.cop0.epc, t.cop0.cause, t.cop0.sr, t.pc)

/-- Rows of rule R424. -/
theorem test_syscall : entry (.syscall 0) (withSr 1 base) = some (0x80010000, 0x20, 4, 0x80000080) := by decide
theorem test_break : entry (.brk 0) (withSr 0x00400001 base) = some (0x80010000, 0x24, 0x00400004, 0xBFC00180) := by
  decide
theorem test_overflow_in_delay_slot : entry (.add 3 1 2)
    (withRegs [(1, 0x7FFFFFFF), (2, 1)] { base with pc := 0x80010004, npc := 0x80010010, bd := true }) =
    some (0x80010000, 0x80000030, 0, 0x80000080) := by decide

/-! ### Immediates (examples of rules R291 to R298) -/

theorem test_addi_overflows : result (.addi 1 1 0x7FFF) 1 (withRegs [(1, 0x7FFFFFFF)] base) =
    some (some (.excepted 12), 0x7FFFFFFF) := by decide
theorem test_addi : result (.addi 1 1 0xFFF6) 1 (withRegs [(1, 10)] base) = ok 0 := by decide
theorem test_addiu : result (.addiu 1 1 0x7FFF) 1 (withRegs [(1, 0x7FFFFFFF)] base) = ok 0x80007FFE := by decide
theorem test_slti : result (.slti 1 1 0) 1 (withRegs [(1, 0xFFFFFFF6)] base) = ok 1 := by decide
theorem test_sltiu : result (.sltiu 1 1 0) 1 (withRegs [(1, 0xFFFFFFF6)] base) = ok 0 := by decide
theorem test_sltiu_sign_extends : result (.sltiu 1 1 0xFFFF) 1 (withRegs [(1, 0xFFFFFFFE)] base) = ok 1 := by decide
theorem test_andi : result (.andi 2 1 0xFF00) 2 (withRegs [(1, 0xFFFFFFFF)] base) = ok 0xFF00 := by decide
theorem test_ori : result (.ori 2 1 0x8001) 2 (withRegs [(1, 0x12340000)] base) = ok 0x12348001 := by decide
theorem test_xori : result (.xori 2 1 0xFFFF) 2 (withRegs [(1, 0xFFFFFFFF)] base) = ok 0xFFFF0000 := by decide
theorem test_lui : result (.lui 2 0x8001) 2 base = ok 0x80010000 := by decide

/-! ### Memory (examples of rules R313 to R326) -/

theorem test_lb : result (.lb 2 1 2) 2 data = ok 0xFFFFFFFF := by decide
theorem test_lbu : result (.lbu 2 1 2) 2 data = ok 0x000000FF := by decide
theorem test_lh : result (.lh 2 1 2) 2 data = ok 0xFFFF80FF := by decide
theorem test_lh_misaligned : result (.lh 2 1 1) 2 data = some (some (.excepted 4), 0x11223344) := by decide
theorem test_lhu : result (.lhu 2 1 2) 2 data = ok 0x000080FF := by decide
theorem test_lw : result (.lw 2 1 0) 2 data = ok 0x80FF7F01 := by decide
/-- The load-delay slot still sees the old value (rule R327). -/
theorem test_lw_delayed : (after (.lw 2 1 0) data).map (fun t => t.x 2) = some 0x11223344 := by decide
theorem test_lw_unmapped : (after (.lw 2 1 0) (withRegs [(1, 0x80200000)] base)).map
    (fun t => (t.lastStep, t.cop0.badVaddr)) = some (some (.excepted 7), 0) := by decide
theorem test_lwl : result (.lwl 2 1 0) 2 data = ok 0x01223344 ∧ result (.lwl 2 1 1) 2 data = ok 0x7F013344 ∧
    result (.lwl 2 1 2) 2 data = ok 0xFF7F0144 ∧ result (.lwl 2 1 3) 2 data = ok 0x80FF7F01 := by decide
theorem test_lwr : result (.lwr 2 1 0) 2 data = ok 0x80FF7F01 ∧ result (.lwr 2 1 1) 2 data = ok 0x1180FF7F ∧
    result (.lwr 2 1 2) 2 data = ok 0x112280FF ∧ result (.lwr 2 1 3) 2 data = ok 0x11223380 := by decide
theorem test_sb : wordAfter 0x1000 (.sb 2 1 1) data = some 0x80FF4401 := by decide
theorem test_sh : wordAfter 0x1000 (.sh 2 1 2) data = some 0x33447F01 := by decide
theorem test_sh_misaligned : (after (.sh 2 1 1) data).map
    (fun t => (t.lastStep, t.cop0.badVaddr, t.mem == data.mem)) = some (some (.excepted 5), 0x80001001, true) := by decide
theorem test_sw : wordAfter 0x1004 (.sw 2 1 4) data = some 0x11223344 := by decide
theorem test_swl : wordAfter 0x1000 (.swl 2 1 0) data = some 0x80FF7F11 ∧
    wordAfter 0x1000 (.swl 2 1 1) data = some 0x80FF1122 ∧ wordAfter 0x1000 (.swl 2 1 2) data = some 0x80112233 ∧
    wordAfter 0x1000 (.swl 2 1 3) data = some 0x11223344 := by decide
theorem test_swr : wordAfter 0x1000 (.swr 2 1 0) data = some 0x11223344 ∧
    wordAfter 0x1000 (.swr 2 1 1) data = some 0x22334401 ∧ wordAfter 0x1000 (.swr 2 1 2) data = some 0x33447F01 ∧
    wordAfter 0x1000 (.swr 2 1 3) data = some 0x44FF7F01 := by decide
/-- The I/O window: one event a byte, in ascending order (rules R121, R123). -/
theorem test_sh_to_io : (after (.sh 2 1 0) (withRegs [(1, 0x1F801004), (2, 0x1234)] base)).map (fun t => t.ioTrace) =
    some [.write 5 0x12, .write 4 0x34] := by decide
/-- The boot ROM discards a store (rule R114), and SR.IsC discards every store (rule R129). -/
theorem test_discarded_stores :
    (after (.sw 2 1 0) (withRegs [(1, 0xBFC00000), (2, 5)] base)).map (fun t => (t.lastStep, t.mem)) =
      some (some .retired, []) ∧
    (after (.sw 2 1 0) (withSr 0x00010000 data)).map (fun t => (t.lastStep, t.mem == data.mem)) =
      some (some .retired, true) := by decide
theorem test_isolated_load : exec (.lw 2 1 0) (withSr 0x00010000 data) = .refused .isolatedCacheLoad := rfl

/-! ### Coprocessors (examples of rules R344 to R358) -/

theorem test_mtc0_sr : (after (.mtc0 2 12) (withRegs [(2, 0xFFFFFFC0)] base)).map (fun t => t.cop0.sr) =
    some 0xF27FFF00 := by decide
theorem test_mtc0_cause : (after (.mtc0 2 13) (withRegs [(2, 0xFFFFFFFF)] base)).map (fun t => t.cop0.cause) =
    some 0x300 := by decide
theorem test_mfc0 : result (.mfc0 3 12) 3 (withSr 0xF27FFF00 base) = ok 0xF27FFF00 := by decide
theorem test_mfc0_prid : result (.mfc0 3 15) 3 base = ok 2 := by decide
theorem test_rfe : (after .rfe (withSr 0x2C base)).map (fun t => t.cop0.sr) = some 0x2B := by decide
theorem test_dcic : exec (.mtc0 2 7) (withRegs [(2, 1)] base) = .refused .debugNotModelled := rfl
theorem test_cop0_refused : exec (.cfc0 2 12) base = .refused .unimplemented ∧
    exec (.cop0 1) base = .refused .unimplemented := ⟨rfl, rfl⟩
theorem test_cop0_user : (after .rfe (withSr 2 base)).map (fun t => (t.lastStep, t.cop0.cause)) =
    some (some (.excepted 11), 0x2C) := by decide
theorem test_cop2_unusable : (after (.mfc2 2 5) base).map (fun t => t.cop0.cause) = some 0x2000002C := by decide
theorem test_mtc2 : (after (.mtc2 2 5) (withRegs [(2, 0x1234)] (withSr 0x40000000 base))).map (fun t => t.cop2d[5]) =
    some 0x1234 := by decide
theorem test_ctc2 : (after (.ctc2 2 31) (withRegs [(2, 0x1234)] (withSr 0x40000000 base))).map
    (fun t => t.cop2c[31]) = some 0x1234 := by decide
theorem test_lwc2 : (after (.lwc2 5 1 0) (withSr 0x40000000 data)).map (fun t => t.cop2d[5]) = some 0x80FF7F01 := by
  decide
theorem test_swc2 : wordAfter 0x1004 (.swc2 5 1 4)
    { withSr 0x40000000 data with cop2d := (Vector.replicate 32 0#32).set 5 0x1234 } = some 0x00001234 := by decide
theorem test_gte_refused : exec (.cop2 0x180001) (withSr 0x40000000 base) = .refused .unimplemented := rfl
theorem test_cop1 : exec (.cop1 0) (withSr 0x20000000 base) = .refused .noCoprocessor ∧
    (after (.cop3 0) base).map (fun t => t.cop0.cause) = some 0x3000002C := ⟨rfl, by decide⟩

/-! ### Whole steps -/

/-- `step`, where it answers a next state. -/
def stepped (s : State) : Option State :=
  match step s with
  | .next t => some t
  | .fault _ => none
  | .refused _ => none

/-- Rule R424: the reserved word, the interrupt, the misaligned and the unmapped target. -/
theorem test_step_reserved : (stepped (base.withFetchWord 32 0xFC000000)).map (fun t => (t.cop0.epc, t.cop0.cause)) =
    some (0x80010000, 0x28) := by decide
theorem test_step_interrupt : (stepped { withSr 0x401 base with intLines := 1 }).map
    (fun t => (t.cop0.epc, t.cop0.cause, t.cop0.sr)) = some (0x80010000, 0x400, 0x404) := by decide
theorem test_step_interrupt_in_delay_slot :
    (stepped { withSr 0x401 base with pc := 0x80010004, npc := 0x80010010, bd := true, lineInputs := [1] }).map
      (fun t => (t.cop0.epc, t.cop0.cause)) = some (0x80010000, 0x80000400) := by decide
theorem test_step_misaligned : (stepped { base with pc := 0x80020002 }).map
    (fun t => (t.cop0.epc, t.cop0.badVaddr, t.cop0.cause)) = some (0x80020002, 0x80020002, 0x10) := by decide
theorem test_step_unmapped : (stepped { base with pc := 0x80300000 }).map
    (fun t => (t.cop0.epc, t.cop0.badVaddr, t.cop0.cause)) = some (0x80300000, 0, 0x18) := by decide
/-- A step from reset runs the word placed at the reset vector. -/
theorem test_step_from_reset : (stepped (State.reset.withFetchWord 32 0x3C028001)).map
    (fun t => (t.pc, t.npc, gpr 2 t)) = some (0xBFC00004, 0xBFC00008, 0x80010000) := by decide
/-- A fetch from the I/O window calls the router four times (rule R128). -/
theorem test_fetch_from_io : (stepped ({ base with pc := 0x1F801000, npc := 0x1F801004 }.withFetchWord 32 0)).map
    (fun t => (t.lastStep, t.ioTrace.length, t.ioAnswers)) = some (some .retired, 4, []) := by decide
/-- Reset with every draw 0 gives back `State.reset`. -/
theorem test_reset_with_zero_draws : applyReset ⟨0, 0, 0, 0, 0, 0, 0, 0, 0, 0, 0, Vector.replicate 32 0, Vector.replicate 32 0⟩
    State.reset = .next State.reset := rfl
theorem test_reset_refuses : applyReset ⟨0, 0, 0, 0, 0, 0, 0, 0, 0, 0, 0, Vector.replicate 32 0, Vector.replicate 32 0⟩
    { State.reset with cfg := { Config.default with scratchPad := ⟨0x1000, 4⟩ } } = .refused .badConfiguration := rfl
/-- A saved COP0 bank has 32 words: SR at 12, PRId's constant at 15, a draw at 16 (rules R90, R360). -/
theorem test_snapshot : let p := saveState (Vector.replicate 32 7) (withSr 0x401 base)
    p.cop0[12] = 0x401 ∧ p.cop0[15] = 2 ∧ p.cop0[16] = 7 ∧ p.cop0[31] = 7 := by decide
theorem test_probe : probe 0xA0001002 data = some 0xFF ∧ probe 0x1F801000 data = none ∧
    probe 0x20000000 data = none := by decide

/-! ### Witnesses of the statements' hypotheses

Each theorem names the statement it serves; where a statement has clauses over one input, each clause has a state at an
end of its range. -/

/-- User mode, CU0 clear, in the user segment, the interrupts off. -/
def user : State := { base with pc := 0x00010000#32, npc := 0x00010004#32, cop0 := { base.cop0 with sr := 2#32 } }

/-- A word that fetches from `base`, and from `user`. -/
def at0 (w : Nat) : State := base.withFetchWord 32 w
def atUser (w : Nat) : State := user.withFetchWord 32 w

/-- The ends of every range of reserved opcodes and functions, and the words just outside them (ReservedWords…). -/
theorem witness_reserved_ranges :
    (∀ n ∈ [0x14, 0x1F, 0x27, 0x2C, 0x2D, 0x2F, 0x34, 0x37, 0x3C, 0x3F], ReservedWord (BitVec.ofNat 32 (n * 2 ^ 26))) ∧
    (∀ n ∈ [0x01, 0x05, 0x0A, 0x0B, 0x0E, 0x0F, 0x14, 0x17, 0x1C, 0x1F, 0x28, 0x29, 0x2C, 0x3F],
      ReservedWord (BitVec.ofNat 32 n)) ∧
    (∀ n ∈ [0x13, 0x20, 0x26, 0x28, 0x2B, 0x2E, 0x30, 0x33, 0x38, 0x3B], ¬ ReservedWord (BitVec.ofNat 32 (n * 2 ^ 26))) ∧
    (∀ n ∈ [0x00, 0x02, 0x04, 0x06, 0x09, 0x0C, 0x0D, 0x10, 0x13, 0x18, 0x1B, 0x20, 0x27, 0x2A, 0x2B],
      ¬ ReservedWord (BitVec.ofNat 32 n)) := by
  simp [ReservedWord]
theorem witness_reserved_word : Fetches (at0 0xFC000000) 0xFC000000 (at0 0xFC000000) ∧ ReservedWord 0xFC000000 :=
  ⟨⟨by decide, rfl⟩, by dsimp only [ReservedWord]; decide⟩

/-- UndefinedSelectors, first clause: `rt` 2 and 31. -/
theorem witness_undefined_bcond : Fetches (at0 0x04020000) (0x01#6 ++ 0x00#5 ++ 0x02#5 ++ 0x0000#16) (at0 0x04020000) ∧
    Fetches (at0 0x041F0000) (0x01#6 ++ 0x00#5 ++ 0x1F#5 ++ 0x0000#16) (at0 0x041F0000) :=
  ⟨⟨by decide, rfl⟩, ⟨by decide, rfl⟩⟩
/-- Second clause: the reserved selectors 1 and 15, COP0 usable and not, COP2 usable and not. -/
theorem witness_reserved_selector :
    (Fetches (at0 0x40200000) (0x10#6 ++ 0x01#5 ++ 0x000000#21) (at0 0x40200000) ∧ Cop0Usable (at0 0x40200000)) ∧
    (Fetches (atUser 0x41E00000) (0x10#6 ++ 0x0F#5 ++ 0x000000#21) (atUser 0x41E00000) ∧
      ¬ Cop0Usable (atUser 0x41E00000)) ∧
    (Fetches (withSr 0x40000000 (at0 0x49E00000)) (0x12#6 ++ 0x0F#5 ++ 0x000000#21)
      (withSr 0x40000000 (at0 0x49E00000)) ∧ Cop2Usable (withSr 0x40000000 (at0 0x49E00000))) ∧
    (Fetches (at0 0x48200000) (0x12#6 ++ 0x01#5 ++ 0x000000#21) (at0 0x48200000) ∧ ¬ Cop2Usable (at0 0x48200000)) :=
  ⟨⟨⟨by decide, rfl⟩, .inl rfl⟩, ⟨⟨by decide, rfl⟩, by dsimp only [Cop0Usable]; decide⟩,
    ⟨⟨by decide, rfl⟩, rfl⟩, ⟨⟨by decide, rfl⟩, by dsimp only [Cop2Usable]; decide⟩⟩
/-- Third clause: BCz with `rt` 2 and 31. -/
theorem witness_undefined_sense :
    (Fetches (at0 0x41020000) (0x10#6 ++ 0x08#5 ++ 0x02#5 ++ 0x0000#16) (at0 0x41020000) ∧ Cop0Usable (at0 0x41020000)) ∧
    (Fetches (atUser 0x411F0000) (0x10#6 ++ 0x08#5 ++ 0x1F#5 ++ 0x0000#16) (atUser 0x411F0000) ∧
      ¬ Cop0Usable (atUser 0x411F0000)) ∧
    (Fetches (withSr 0x40000000 (at0 0x491F0000)) (0x12#6 ++ 0x08#5 ++ 0x1F#5 ++ 0x0000#16)
      (withSr 0x40000000 (at0 0x491F0000)) ∧ Cop2Usable (withSr 0x40000000 (at0 0x491F0000))) ∧
    (Fetches (at0 0x49020000) (0x12#6 ++ 0x08#5 ++ 0x02#5 ++ 0x0000#16) (at0 0x49020000) ∧
      ¬ Cop2Usable (at0 0x49020000)) :=
  ⟨⟨⟨by decide, rfl⟩, .inl rfl⟩, ⟨⟨by decide, rfl⟩, by dsimp only [Cop0Usable]; decide⟩,
    ⟨⟨by decide, rfl⟩, rfl⟩, ⟨⟨by decide, rfl⟩, by dsimp only [Cop2Usable]; decide⟩⟩

/-- DecodeOfEncode…: a well-formed instruction with every field at its largest value. -/
theorem witness_well_formed : (Instr.sll 31 31 31).WellFormed ∧ (Instr.cop0 0x1FFFFFF).WellFormed := ⟨rfl, rfl⟩

/-- StepRunsTheDecodedInstruction. -/
theorem witness_step_runs : Fetches (at0 0x24217FFF) 0x24217FFF (at0 0x24217FFF) ∧
    decode 0x24217FFF = .ok (.addiu 1 1 0x7FFF) := ⟨⟨by decide, rfl⟩, by decide⟩

/-- FetchReadsTheWordAtPc and FetchFaultsEnter: misaligned; aligned and protected; the word just past main memory; the
last word of main memory. -/
theorem witness_fetch :
    ((0x80020002#32).toNat % 4 ≠ 0) ∧
    ((0x80000000#32).toNat % 4 = 0 ∧ Protected user 0x80000000) ∧
    ((0x00200000#32).toNat % 4 = 0 ∧ ¬ Protected user 0x00200000 ∧ Unmapped user.cfg 0x00200000 4) ∧
    ((0x001FFFFC#32).toNat % 4 = 0 ∧ ¬ Protected user 0x001FFFFC ∧ Located user.cfg 0x001FFFFC
      [⟨.mainMemory, 0x1FFFFC⟩, ⟨.mainMemory, 0x1FFFFD⟩, ⟨.mainMemory, 0x1FFFFE⟩, ⟨.mainMemory, 0x1FFFFF⟩]) := by
  dsimp only [Protected, Unmapped, Located]; decide
theorem witness_fetch_faults :
    (base.sampleLines.interruptTaken = false ∧ { base with pc := 0x80020002 }.sampleLines.interruptTaken = false ∧
      ({ base with pc := 0x80020002 } : State).pc.toNat % 4 ≠ 0) ∧
    (({ user with pc := 0x80000000 } : State).sampleLines.interruptTaken = false ∧
      Protected { user with pc := 0x80000000 } 0x80000000) ∧
    (({ user with pc := 0x00200000 } : State).sampleLines.interruptTaken = false ∧
      ¬ Protected { user with pc := 0x00200000 } 0x00200000 ∧ Unmapped user.cfg 0x00200000 4) := by
  dsimp only [Protected, Unmapped]; decide

/-- CauseFollowsTheLines, StepRetiresOrEntersTheVector, StepKeepsTheInvariant, StepKeepsTheBootRom: a step to a next
state from a state that meets the invariant, with lines driven. -/
def driven : State := { at0 0x24217FFF with lineInputs := [0x3F, 0] }
theorem witness_step : (∃ t, step driven = .next t) ∧ Machine.Inv driven ∧ driven.cfg.valid = true :=
  ⟨⟨_, rfl⟩, ⟨by decide, ⟨rfl, rfl, rfl⟩, rfl, by dsimp only [ReservedBitsZero]; decide, fun _ => by decide⟩, by decide⟩

/-- InterruptIsTaken…: ready with the lowest line, ready with software bit 8 and line 5, not ready for the want of IEc, of
the mask, of the pending bit. -/
theorem witness_interrupt :
    (let u := ({ withSr 0x401 base with intLines := 1 } : State).sampleLines
     u.cop0.sr.getLsbD 0 = true ∧ u.cop0.sr.getLsbD (8 + 2) = true ∧ u.cop0.cause.getLsbD (8 + 2) = true) ∧
    (let u := ({ withSr 0x8001 base with intLines := 0x20 } : State).sampleLines
     u.cop0.sr.getLsbD 0 = true ∧ u.cop0.sr.getLsbD (8 + 7) = true ∧ u.cop0.cause.getLsbD (8 + 7) = true) ∧
    (∀ s ∈ [({ withSr 0x400 base with intLines := 1 } : State), { withSr 0x801 base with intLines := 1 }, withSr 0x401 base],
      ¬ (s.sampleLines.cop0.sr.getLsbD 0 = true ∧ ∃ k, k < 8 ∧ s.sampleLines.cop0.sr.getLsbD (8 + k) = true ∧
        s.sampleLines.cop0.cause.getLsbD (8 + k) = true)) ∧
    (stepped { at0 0 with intLines := 1 }).isSome = true := by
  decide

/-- ExceptedInstruction…: each code an instruction raises: AdEL, AdES, DBE, Sys, Bp, CpU, Ov. -/
theorem witness_excepted :
    [after (.lw 2 1 1) data, after (.sw 2 1 1) data, after (.lw 2 1 0) (withRegs [(1, 0x80200000)] base),
      after (.syscall 0) base, after (.brk 0) base, after (.mfc2 2 5) base,
      after (.add 3 1 1) (withRegs [(1, 0x7FFFFFFF)] base)].map (fun t => t.map (fun t => t.lastStep)) =
    [4, 5, 7, 8, 9, 11, 12].map fun c => some (some (.excepted c)) := by
  decide

/-- ModeChanges…: user to kernel by SYSCALL, kernel to user by RFE and by MTC0; a reset that answers. -/
theorem witness_mode_changes :
    (stepped (atUser 0x0000000C)).map (fun t => (t.lastStep, t.cop0.sr.getLsbD 1)) = some (some (.excepted 8), false) ∧
    (stepped (withSr 0x08 (at0 0x42000010))).map (fun t => t.cop0.sr.getLsbD 1) = some true ∧
    (stepped (withRegs [(2, 2)] (at0 0x40826000))).map (fun t => t.cop0.sr.getLsbD 1) = some true := by
  decide

/-- RfePops…, RfeUndoes…: usable by mode, usable by CU0, not usable; an entry, then RFE. -/
theorem witness_rfe : Cop0Usable base ∧ Cop0Usable (withSr 0x10000002 base) ∧ ¬ Cop0Usable user ∧
    ((user.enter .sys).cop0.sr = (user.enter .sys).cop0.sr ∧ ∃ v, exec .rfe (user.enter .sys) = .next v) :=
  ⟨.inl rfl, .inr rfl, by dsimp only [Cop0Usable]; decide, rfl, ⟨_, rfl⟩⟩

/-- ExceptionInADelaySlot…: a branch, then a SYSCALL in its slot. -/
def branchAt : State := { base with mem := ({ base with pc := 0x80010004 } : State).withFetchWord 32 0x0000000C |>.mem }
theorem witness_delay_slot : ∃ s t, exec (.beq 0 0 3) branchAt = .next s ∧ s.bd = true ∧
    branchAt.npc = branchAt.pc + 4 ∧ step s = .next t ∧ t.lastStep = some (.excepted 8) :=
  ⟨_, _, rfl, rfl, by decide, rfl, rfl⟩

/-- TrappingArithmetic and AddiAndAddiuAgree: the largest result that fits and the smallest that does not, at both
ends, for each of the three. -/
theorem witness_trapping :
    (let fits (r : Int) := -2147483648 ≤ r ∧ r ≤ 2147483647
     let v (n : Word) : Int := (withRegs [(1, n)] base).x 1 |>.toInt
     fits (v 0x7FFFFFFE + v 1) ∧ ¬ fits (v 0x7FFFFFFF + v 1) ∧ fits (v 0x80000001 + v 0xFFFFFFFF) ∧
     ¬ fits (v 0x80000000 + v 0xFFFFFFFF) ∧ fits (v 0x80000001 - v 1) ∧ ¬ fits (v 0x80000000 - v 1) ∧
     fits (v 0x7FFFFFFE - v 0xFFFFFFFF) ∧ ¬ fits (v 0x7FFFFFFF - v 0xFFFFFFFF) ∧
     fits (v 0x7FFF8000 + (0x7FFF#16).toInt) ∧ ¬ fits (v 0x7FFF8001 + (0x7FFF#16).toInt) ∧
     fits (v 0x80008000 + (0x8000#16).toInt) ∧ ¬ fits (v 0x80007FFF + (0x8000#16).toInt)) ∧
    ((withRegs [(1, 0x7FFF8001)] base).x 1).msb = ((0x7FFF#16).signExtend 32).msb ∧
    ((withRegs [(1, 0x7FFF8001)] base).x 1 + (0x7FFF#16).signExtend 32).msb ≠ ((withRegs [(1, 0x7FFF8001)] base).x 1).msb ∧
    ((withRegs [(1, 0x7FFF8000)] base).x 1 + (0x7FFF#16).signExtend 32).msb = ((withRegs [(1, 0x7FFF8000)] base).x 1).msb := by
  decide

/-- SignedDivision and UnsignedDivision: each clause. -/
theorem witness_division :
    (let v (n : Word) : Word := (withRegs [(1, n)] base).x 1
     (v 0 = 0 ∧ 0 ≤ (v 0).toInt ∧ 0 ≤ (v 0x7FFFFFFF).toInt) ∧
     ((v 0xFFFFFFFF).toInt < 0 ∧ (v 0x80000000).toInt < 0) ∧
     (v 0x80000000 = 0x80000000 ∧ v 0xFFFFFFFF = 0xFFFFFFFF) ∧
     (v 1 ≠ 0 ∧ ¬ (v 0x80000000 = 0x80000000 ∧ v 1 = 0xFFFFFFFF)) ∧
     (v 0xFFFFFFFF ≠ 0 ∧ ¬ (v 0x80000001 = 0x80000000 ∧ v 0xFFFFFFFF = 0xFFFFFFFF))) := by
  decide

/-- The branches: each condition true and false. -/
theorem witness_branches :
    (let v (n : Word) : Int := (withRegs [(1, n)] base).x 1 |>.toInt
     v 0x80000000 < 0 ∧ ¬ v 0 < 0 ∧ v 0 ≥ 0 ∧ ¬ v 0xFFFFFFFF ≥ 0 ∧ v 0 ≤ 0 ∧ ¬ v 1 ≤ 0 ∧ v 1 > 0 ∧ ¬ v 0 > 0 ∧
     v 5 = v 5 ∧ v 5 ≠ v 6) := by
  decide

/-- JumpsToARegister: targets that cannot be fetched, outside a delay slot. -/
theorem witness_bad_target :
    (({ base with pc := 0x80020001 } : State).bd = false ∧
      ({ base with pc := 0x80020001 } : State).sampleLines.interruptTaken = false ∧
      ({ base with pc := 0x80020001 } : State).pc.toNat % 4 ≠ 0) ∧
    (({ base with pc := 0x80300000 } : State).pc.toNat % 4 = 0 ∧ ¬ Protected { base with pc := 0x80300000 } 0x80300000 ∧
      Unmapped base.cfg 0x80300000 4) := by
  dsimp only [Protected, Unmapped]; decide

/-- ValidRegionTables: a valid table; a table with regions that share an address; one with a misaligned size. -/
theorem witness_tables : Config.default.valid = true ∧
    ({ Config.default with scratchPad := ⟨0x1FFFFC, 8⟩ } : Config).valid = false ∧
    ({ Config.default with scratchPad := ⟨0x1F800000, 6⟩ } : Config).valid = false := by
  decide

/-- AddressTranslation: the last byte of main memory in each segment, the first byte past it, the top user address, the
I/O window's ends, the cache-control window's ends. -/
theorem witness_translation :
    Config.default.valid = true ∧
    translate Config.default 0x001FFFFF = some ⟨.mainMemory, 0x1FFFFF⟩ ∧
    translate Config.default 0x801FFFFF = some ⟨.mainMemory, 0x1FFFFF⟩ ∧
    translate Config.default 0xA01FFFFF = some ⟨.mainMemory, 0x1FFFFF⟩ ∧
    translate Config.default 0x00200000 = none ∧ translate Config.default 0x7FFFFFFF = none ∧
    translate Config.default 0x1F8003FF = some ⟨.scratchPad, 0x3FF⟩ ∧
    translate Config.default 0x9F07FFFF = some ⟨.parallelPort, 0x7FFFF⟩ ∧
    translate Config.default 0x1F801000 = some ⟨.ioWindow, 0⟩ ∧
    translate Config.default 0xBF802FFF = some ⟨.ioWindow, 0x1FFF⟩ ∧ translate Config.default 0xBF803000 = none ∧
    Machine.translate { Config.default with ioSubranges := [] } 0x1F801000 = none ∧
    translate Config.default 0xBFC00000 = some ⟨.bootRom, 0⟩ ∧
    translate Config.default 0xFFFE0000 = some ⟨.cacheControl, 0⟩ ∧
    translate Config.default 0xFFFE01FF = some ⟨.cacheControl, 0x1FF⟩ ∧ translate Config.default 0xFFFE0200 = none ∧
    translate Config.default 0xC0000000 = none := by
  decide

/-- SegmentsAlias: a byte stored in segment A. -/
theorem witness_alias : 0x80000000 ≤ (0x80001001#32).toNat ∧ (0x80001001#32).toNat < 0xA0000000 ∧
    effectiveAddress data 1 1 = 0x80001001 ∧ ¬ Protected data 0x80001001 ∧ ¬ Isolated data ∧
    translate data.cfg 0x80001001 = some ⟨.mainMemory, 0x1001⟩ ∧ Loc.writable ⟨.mainMemory, 0x1001⟩ ∧
    (after (.sb 2 1 1) data).isSome = true := by
  dsimp only [effectiveAddress, Protected, Isolated, Loc.writable]; decide

/-! Memory accesses: each clause of Loads, PartialLoads, Stores, PartialStores and LoadAndStoreOfCop2. -/

/-- `data` with the caches isolated; `data` in user mode; a base register just past main memory; just below its end. -/
def isolated : State := withSr 0x40010000 data
def userData : State := withSr 0x40000002 data
def past : State := withRegs [(1, 0x80200000)] (withSr 0x40000000 data)

theorem witness_access_misaligned :
    (effectiveAddress data 1 1).toNat % 2 ≠ 0 ∧ (effectiveAddress data 1 3).toNat % 4 ≠ 0 ∧
    (effectiveAddress data 1 2).toNat % 4 ≠ 0 := by
  dsimp only [effectiveAddress]; decide
theorem witness_access_protected :
    Protected userData (effectiveAddress userData 1 0) ∧ (effectiveAddress userData 1 0).toNat % 4 = 0 ∧
    Cop2Usable userData := by
  dsimp only [Protected, effectiveAddress, Cop2Usable]; decide
theorem witness_access_isolated :
    ¬ Protected isolated (effectiveAddress isolated 1 0) ∧ Isolated isolated ∧
    (effectiveAddress isolated 1 0).toNat % 4 = 0 ∧ Cop2Usable isolated := by
  dsimp only [Protected, Isolated, effectiveAddress, Cop2Usable]; decide
theorem witness_access_unmapped :
    ¬ Protected past (effectiveAddress past 1 0) ∧ ¬ Isolated past ∧ (effectiveAddress past 1 0).toNat % 4 = 0 ∧
    Unmapped past.cfg (effectiveAddress past 1 0) 1 ∧ Unmapped past.cfg (effectiveAddress past 1 0) 2 ∧
    Unmapped past.cfg (effectiveAddress past 1 0) 4 ∧ Cop2Usable past := by
  dsimp only [Protected, Isolated, effectiveAddress, Unmapped, Cop2Usable]; decide
/-- The last bytes of main memory, at an access of each width. -/
theorem witness_access_located :
    ¬ Protected past (effectiveAddress past 1 0xFFFC) ∧ ¬ Isolated past ∧
    Located past.cfg (effectiveAddress past 1 0xFFFF) [⟨.mainMemory, 0x1FFFFF⟩] ∧
    (effectiveAddress past 1 0xFFFE).toNat % 2 = 0 ∧
    Located past.cfg (effectiveAddress past 1 0xFFFE) [⟨.mainMemory, 0x1FFFFE⟩, ⟨.mainMemory, 0x1FFFFF⟩] ∧
    (effectiveAddress past 1 0xFFFC).toNat % 4 = 0 ∧
    Located past.cfg (effectiveAddress past 1 0xFFFC)
      [⟨.mainMemory, 0x1FFFFC⟩, ⟨.mainMemory, 0x1FFFFD⟩, ⟨.mainMemory, 0x1FFFFE⟩, ⟨.mainMemory, 0x1FFFFF⟩] ∧
    Cop2Usable past ∧ ¬ Cop2Usable data := by
  dsimp only [Protected, Isolated, effectiveAddress, Located, Cop2Usable]; decide
/-- An access in the I/O window. -/
theorem witness_access_io :
    Located base.cfg 0x1F801004 [⟨.ioWindow, 4⟩, ⟨.ioWindow, 5⟩, ⟨.ioWindow, 6⟩, ⟨.ioWindow, 7⟩] ∧
    ¬ Protected base 0x1F801004 ∧ ¬ Isolated base := by
  dsimp only [Protected, Isolated, Located]; decide
/-- The partial accesses: each place in the word; SWR at the last byte of main memory and SWL just past it. -/
theorem witness_partial :
    (effectiveAddress data 1 0).toNat % 4 = 0 ∧ (effectiveAddress data 1 1).toNat % 4 = 1 ∧
    (effectiveAddress data 1 2).toNat % 4 = 2 ∧ (effectiveAddress data 1 3).toNat % 4 = 3 ∧
    Located data.cfg (effectiveAddress data 1 3 - BitVec.ofNat 32 3)
      [⟨.mainMemory, 0x1000⟩, ⟨.mainMemory, 0x1001⟩, ⟨.mainMemory, 0x1002⟩, ⟨.mainMemory, 0x1003⟩] ∧
    Located past.cfg (effectiveAddress past 1 0xFFFF) [⟨.mainMemory, 0x1FFFFF⟩] ∧
    Unmapped past.cfg (effectiveAddress past 1 0) 1 ∧
    Unmapped past.cfg (effectiveAddress past 1 2 - BitVec.ofNat 32 2) 3 ∧
    Unmapped past.cfg (effectiveAddress past 1 2) 2 := by
  dsimp only [effectiveAddress, Located, Unmapped]; decide

/-- UnalignedStoreByAPair, in both orders. -/
theorem witness_store_pair :
    (effectiveAddress data 1 1).toNat % 4 ≠ 0 ∧ effectiveAddress data 1 4 = effectiveAddress data 1 1 + 3 ∧
    Settled data 1 ∧ Settled data 2 ∧ ¬ Protected data (effectiveAddress data 1 1) ∧
    ¬ Protected data (effectiveAddress data 1 1 + 3) ∧ ¬ Isolated data ∧
    (∀ j, j < 4 → translate data.cfg (effectiveAddress data 1 1 + BitVec.ofNat 32 j) =
      some ⟨.mainMemory, 0x1001 + j⟩) ∧
    ((after (.swr 2 1 1) data).bind (after (.swl 2 1 4))).isSome = true ∧
    ((after (.swl 2 1 4) data).bind (after (.swr 2 1 1))).isSome = true := by
  dsimp only [effectiveAddress, Settled, Protected, Isolated]; decide
/-- UnalignedLoadByAPair. -/
theorem witness_load_pair :
    (2 : Reg) ≠ 0 ∧ (2 : Reg) ≠ 1 ∧ (effectiveAddress data 1 3).toNat % 4 ≠ 0 ∧
    effectiveAddress data 1 6 = effectiveAddress data 1 3 + 3 ∧ Settled data 1 ∧ Settled data 2 ∧
    ¬ Protected data (effectiveAddress data 1 3) ∧ ¬ Protected data (effectiveAddress data 1 3 + 3) ∧ ¬ Isolated data ∧
    (∀ j, j < 8 → translate data.cfg (effectiveAddress data 1 3 - BitVec.ofNat 32 3 + BitVec.ofNat 32 j) =
      some ⟨.mainMemory, 0x1000 + j⟩) := by
  dsimp only [effectiveAddress, Settled, Protected, Isolated]; decide
/-- StoredWordIsFetched, with `u` the state after the store. -/
theorem witness_stored_word :
    (after (.sw 2 1 4) data).isSome = true ∧ (effectiveAddress data 1 4).toNat % 4 = 0 ∧
    ¬ Protected data (effectiveAddress data 1 4) ∧ ¬ Isolated data ∧
    (∀ j, j < 4 → translate data.cfg (effectiveAddress data 1 4 + BitVec.ofNat 32 j) =
      some ⟨.mainMemory, 0x1004 + j⟩) ∧
    (after (.sw 2 1 4) data).map (fun t => t.cop0.sr.getLsbD 1) = some false := by
  dsimp only [effectiveAddress, Protected, Isolated]; decide
/-- MemoryFrame: an instruction that is no store, and each store, to a next state. -/
theorem witness_memory_frame :
    (∃ t, exec (.add 3 1 2) data = .next t) ∧ ¬ StoreInstr (.add 3 1 2) ∧
    (after (.sb 2 1 3) data).isSome = true ∧ (after (.sh 2 1 2) data).isSome = true ∧
    (after (.sw 2 1 0) data).isSome = true ∧ (after (.swl 2 1 3) data).isSome = true ∧
    (after (.swr 2 1 1) data).isSome = true ∧ (after (.swc2 2 1 0) (withSr 0x40000000 data)).isSome = true :=
  ⟨⟨_, rfl⟩, nofun, by decide, by decide, by decide, by decide, by decide, by decide⟩

/-! Coprocessors. -/

/-- MoveFromCop0, MoveToCop0, MovesOfCop2 and the refused and absent instructions: usable and not, the register ranges'
ends, DCIC with 0 and with 1. -/
theorem witness_cop_usable : Cop0Usable base ∧ ¬ Cop0Usable user ∧ Cop2Usable past ∧ ¬ Cop2Usable base :=
  ⟨.inl rfl, by dsimp only [Cop0Usable]; decide, rfl, by dsimp only [Cop2Usable]; decide⟩
/-- UnusableCoprocessorTraps, the usable direction: COP0 in kernel mode, COP2 with CU2, to a next state. -/
theorem witness_cop_runs : CopInstr .rfe 0 ∧ Cop0Usable base ∧ (∃ t, exec .rfe base = .next t) ∧
    CopInstr (.mfc2 2 5) 2 ∧ Cop2Usable past ∧ ∃ t, exec (.mfc2 2 5) past = .next t :=
  ⟨.rfe, .inl rfl, ⟨_, rfl⟩, .mfc2 2 5, rfl, ⟨_, rfl⟩⟩
theorem witness_cop0_ranges :
    (∀ rd ∈ [0, 2, 4, 6, 10, 16, 31], (rd : Reg) = 6 ∨ rd.toNat ≤ 2 ∨ rd = 4 ∨ rd = 10 ∨ 16 ≤ rd.toNat) ∧
    (∀ rd ∈ [3, 5, 7, 8, 9, 11, 12, 13, 14, 15],
      ¬ ((rd : Reg) = 6 ∨ rd.toNat ≤ 2 ∨ rd = 4 ∨ rd = 10 ∨ 16 ≤ rd.toNat)) ∧
    (∀ rd ∈ [0, 2, 4, 6, 8, 10, 14, 15, 31], (rd : Reg).toNat ≤ 2 ∨ rd = 4 ∨ rd = 6 ∨ rd = 8 ∨ rd = 10 ∨ 14 ≤ rd.toNat) ∧
    (∀ rd ∈ [3, 5, 7, 9, 11, 12, 13],
      ¬ ((rd : Reg).toNat ≤ 2 ∨ rd = 4 ∨ rd = 6 ∨ rd = 8 ∨ rd = 10 ∨ 14 ≤ rd.toNat)) ∧
    base.x 2 = 0 ∧ (withRegs [(2, 1)] base).x 2 ≠ 0 := by
  decide
theorem witness_cop_instructions : CopInstr .rfe 0 ∧ CopInstr (.cop2 0) 2 ∧ Unimplemented (.cop0 1) 0 ∧
    Unimplemented (.bc2f 0) 2 ∧ AbsentCop (.cop1 0) 1 ∧ AbsentCop (.swc3 0 0 0) 3 ∧
    (withSr 0x20000000 base).cop0.sr.getLsbD 29 = true ∧ base.cop0.sr.getLsbD 29 = false ∧
    (withSr 0x80000000 base).cop0.sr.getLsbD 31 = true ∧ base.cop0.sr.getLsbD 31 = false ∧
    (0x0F#25).toNat % 64 ≠ 0x10 ∧ (0x11#25).toNat % 64 ≠ 0x10 :=
  ⟨.rfe, .refused (.cop2 0), .cop0 1, .bc2f 0, .cop1 0, .swc3 0 0 0, by decide, by decide, by decide, by decide, by decide,
    by decide⟩

/-! State, reset, the host. -/

/-- ResetLeaves: a table that is valid, and one that is not (`test_reset_refuses`). -/
theorem witness_reset : State.reset.cfg.valid = true := by decide
/-- UserModeCannotReadCop0: two user states that differ in EPC, BadVaddr and BPC and step to a next state; two that are
refused. -/
def secret (s : State) : State := { s with cop0 := { s.cop0 with epc := 7, badVaddr := 8, bpc := 9 } }
theorem witness_user_pair :
    SameButPrivileged (atUser 0x24217FFF) (secret (atUser 0x24217FFF)) ∧
    (atUser 0x24217FFF).cop0.sr.getLsbD 1 = true ∧ (atUser 0x24217FFF).cop0.sr.getLsbD 28 = false ∧
    (∃ t, step (atUser 0x24217FFF) = .next t) ∧
    SameButPrivileged (atUser 0x04020000) (secret (atUser 0x04020000)) ∧
    step (atUser 0x04020000) = .refused .undecodedBcond :=
  ⟨rfl, rfl, rfl, ⟨_, rfl⟩, rfl, rfl⟩
/-- ProbeReadsStorageOnly: no region, the I/O window, storage that user mode may not reach. -/
theorem witness_probe : translate user.cfg 0x20000000 = none ∧ translate user.cfg 0x1F801000 = some ⟨.ioWindow, 0⟩ ∧
    translate user.cfg 0x801FFFFF = some ⟨.mainMemory, 0x1FFFFF⟩ := by
  decide

end Sys2Proof.Tests
end

/-! PROOFS about the state: the register file, snapshots, and the invariant of every step. -/

namespace Sys2Proof.Machine

/-! ### The register file (rules R41 to R49) -/

/-- A tick shows what stage 2 held (rules R41, R44). -/
theorem RegFile.tick_get (f : RegFile) {r : Reg} (h : r ≠ 0#5) : f.tick.get r = f.stage2[r.toNat] :=
  f.tick.get_of_ne_zero h

/-- A second tick shows what stage 1 held (rules R41, R44). -/
theorem RegFile.tick_tick_get (f : RegFile) {r : Reg} (h : r ≠ 0#5) : f.tick.tick.get r = f.stage1[r.toNat] :=
  f.tick.tick_get h

/-- A non-delayed write leaves the `$0` entries of the stages alone (rules R42, R46). -/
theorem RegFile.set_zeroEntries (f : RegFile) (r : Reg) (v : Word) :
    (f.set r v).stage1[0] = f.stage1[0] ∧ (f.set r v).stage2[0] = f.stage2[0] ∧
      (f.set r v).stage3[0] = f.stage3[0] :=
  ⟨(f.set_stage1 r 0#5 v).trans (if_neg fun h => h.2 rfl), (f.set_stage2 r 0#5 v).trans (if_neg fun h => h.2 rfl),
    (f.set_stage3 r 0#5 v).trans (if_neg fun h => h.2 rfl)⟩

/-- A delayed write leaves the `$0` entry of stage 1 alone (rules R43, R46). -/
theorem RegFile.setLate_zeroEntry (f : RegFile) (r : Reg) (v : Word) : (f.setLate r v).stage1[0] = f.stage1[0] :=
  (f.setLate_stage1 r 0#5 v).trans (if_neg fun h => h.2 rfl)

/-- Settles O54: what a write leaves in each stage, and what a tick then shows of it. -/
theorem registerFile : Obligations.RegisterFile := by
  intro f r k v w
  refine ⟨f.get_zero, f.get_of_ne_zero, f.set_zero v, f.setLate_zero v, fun (hr : r ≠ 0#5) => ?_, rfl, rfl, rfl⟩
  have hk : (k = r ∧ k ≠ 0#5) ↔ k = r := and_iff_left_of_imp fun h => h ▸ hr
  refine ⟨?_, ?_, ?_, ?_, RegFile.setLate_stage2 f r v, RegFile.setLate_stage3 f r v, ?_, ?_, ?_, ?_, ?_, ?_⟩
  · rw [RegFile.set_stage1, if_congr hk rfl rfl]
  · rw [RegFile.set_stage2, if_congr hk rfl rfl]
  · rw [RegFile.set_stage3, if_congr hk rfl rfl]
  · rw [RegFile.setLate_stage1, if_congr hk rfl rfl]
  · simp [RegFile.tick_get _ hr]
  · simp [RegFile.tick_tick_get _ hr, RegFile.setLate_stage1, hr]
  · simp [RegFile.tick_get _ hr, RegFile.set_stage2, hr]
  · simp [RegFile.tick_tick_get _ hr, RegFile.set_stage1, hr]
  · simp [RegFile.tick_get _ hr, RegFile.setLate_stage1, hr]
  · simp [RegFile.tick_tick_get _ hr, RegFile.setLate_stage1, hr]

/-! ### Snapshots (rules R90 to R92, R360) -/

/-- A saved bank's word of a register that holds a value is that value (rules R91, R360). -/
theorem cop0Save_of_value {d : Vector Word 32} {c : Cop0} {r : Reg} {v : Word} (h : cop0Value r c = some v) :
    (cop0Save d c)[r.toNat] = v := by
  rw [cop0Save_getElem, h, Option.getD_some]

/-- A saved bank's word of a register that holds no value is the draw at its number (rules R68, R69). -/
theorem cop0Save_of_no_value {d : Vector Word 32} {c : Cop0} {r : Reg} (h : cop0Value r c = none) :
    (cop0Save d c)[r.toNat] = d[r.toNat] := by
  rw [cop0Save_getElem, h, Option.getD_none]

/-- Loading a snapshot of `s` gives `s`'s registers and leaves the rest of `u` alone (rules R90, R92). -/
theorem loadState_saveState (d : Vector Word 32) (s u : State) :
    loadState (saveState d s) u =
      { u with
        regs := s.regs, pc := s.pc, npc := s.npc, bd := s.bd, hi := s.hi, lo := s.lo
        cop0 := s.cop0, cop2d := s.cop2d, cop2c := s.cop2c } := by
  simp [loadState, saveState]

/-- Settles O59: the COP0 bank word by word, and `loadState_saveState`. -/
theorem snapshotRestores : Obligations.SnapshotRestores := by
  intro d s u
  refine ⟨⟨rfl, rfl, rfl, rfl, rfl, rfl, rfl, rfl⟩, ?_, loadState_saveState d s u⟩
  exact ⟨cop0Save_of_value (r := 3) rfl, cop0Save_of_value (r := 5) rfl, cop0Save_of_value (r := 7) rfl,
    cop0Save_of_value (r := 8) rfl, cop0Save_of_value (r := 9) rfl, cop0Save_of_value (r := 11) rfl,
    cop0Save_of_value (r := 12) rfl, cop0Save_of_value (r := 13) rfl, cop0Save_of_value (r := 14) rfl,
    cop0Save_of_value (r := 15) rfl, fun _ hr => cop0Save_of_no_value (cop0Value_none s.cop0 hr)⟩

/-! ### The read-0 bits of SR and CAUSE (rules R61 to R64)

Each update of SR or CAUSE changes a few bits only, and no read-0 bit is among them. -/

/-- Two words that agree on the bits of a mask agree under it. -/
theorem and_mask_congr {m a b : Word} (h : ∀ k < 32, m.getLsbD k = true → a.getLsbD k = b.getLsbD k) :
    a &&& m = b &&& m := by
  refine BitVec.eq_of_getLsbD_eq fun k hk => ?_
  rw [BitVec.getLsbD_and, BitVec.getLsbD_and]
  cases hm : m.getLsbD k with
  | false => simp
  | true => rw [h k hk hm]

/-- Exception entry changes only bits 5:0 of SR (rule R414). -/
theorem pushStatus_bit_of_ge (sr : Word) {k : Nat} (hk : 6 ≤ k) : (pushStatus sr).getLsbD k = sr.getLsbD k := by
  simp only [pushStatus, BitVec.getLsbD_append, BitVec.getLsbD_extractLsb']
  grind

/-- RFE changes only bits 3:0 of SR (rule R349). -/
theorem popStatus_bit_of_ge (sr : Word) {k : Nat} (hk : 4 ≤ k) : (popStatus sr).getLsbD k = sr.getLsbD k := by
  simp only [popStatus, BitVec.getLsbD_append, BitVec.getLsbD_extractLsb']
  grind

/-- Sampling the lines changes only bits 15:10 of CAUSE (rule R420). -/
theorem sampleCause_bit_of_other (cause : Word) (lines : BitVec 6) {k : Nat} (hk : k < 10 ∨ 16 ≤ k) :
    (sampleCause cause lines).getLsbD k = cause.getLsbD k := by
  simp only [sampleCause, BitVec.getLsbD_append, BitVec.getLsbD_extractLsb']
  grind

/-- MTC0 changes only bits 9:8 of CAUSE (rule R64). -/
theorem writeCause_bit_of_other (cause v : Word) {k : Nat} (hk : k < 8 ∨ 10 ≤ k) :
    (writeCause cause v).getLsbD k = cause.getLsbD k := by
  simp only [writeCause, BitVec.getLsbD_append, BitVec.getLsbD_extractLsb']
  grind

/-- Exception entry changes only BD, CE and ExcCode of CAUSE (rules R64, R410). -/
theorem enterCause_bit_of_other (cause : Word) (bd : Bool) (ce : Option (BitVec 2)) (code : BitVec 5) {k : Nat}
    (hk : k < 2 ∨ 7 ≤ k ∧ k < 28 ∨ k = 30) : (enterCause cause bd ce code).getLsbD k = cause.getLsbD k := by
  simp only [enterCause, BitVec.getLsbD_append, BitVec.getLsbD_extractLsb']
  grind

theorem pushStatus_reserved (sr : Word) : pushStatus sr &&& 0x0D8000C0#32 = sr &&& 0x0D8000C0#32 :=
  and_mask_congr fun k hk hm => pushStatus_bit_of_ge sr (by revert k; decide)

theorem popStatus_reserved (sr : Word) : popStatus sr &&& 0x0D8000C0#32 = sr &&& 0x0D8000C0#32 :=
  and_mask_congr fun k hk hm => popStatus_bit_of_ge sr (by revert k; decide)

theorem sampleCause_reserved (cause : Word) (lines : BitVec 6) :
    sampleCause cause lines &&& 0x4FFF0083#32 = cause &&& 0x4FFF0083#32 :=
  and_mask_congr fun k hk hm => sampleCause_bit_of_other cause lines (by revert k; decide)

theorem writeCause_reserved (cause v : Word) : writeCause cause v &&& 0x4FFF0083#32 = cause &&& 0x4FFF0083#32 :=
  and_mask_congr fun k hk hm => writeCause_bit_of_other cause v (by revert k; decide)

theorem enterCause_reserved (cause : Word) (bd : Bool) (ce : Option (BitVec 2)) (code : BitVec 5) :
    enterCause cause bd ce code &&& 0x4FFF0083#32 = cause &&& 0x4FFF0083#32 :=
  and_mask_congr fun k hk hm => enterCause_bit_of_other cause bd ce code (by revert k; decide)

/-- MTC0's mask covers no read-0 bit of SR (rule R62). -/
theorem srWriteMask_reserved (v : Word) : v &&& srWriteMask &&& 0x0D8000C0#32 = 0#32 := by
  rw [BitVec.and_assoc, show srWriteMask &&& 0x0D8000C0#32 = 0#32 from rfl, BitVec.and_zero]

/-- MTC0 to any register leaves the read-0 bits 0 (rules R62, R64, R346). -/
theorem cop0Write_reserved {s : State} (h : ReservedBitsZero s) (r : Reg) (v : Word) :
    ReservedBitsZero { s with cop0 := cop0Write r v s.cop0 } := by
  obtain ⟨hsr, hcause⟩ := h
  unfold cop0Write
  cases cop0RegOf r with
  | sr => exact ⟨srWriteMask_reserved v, hcause⟩
  | cause => exact ⟨hsr, (writeCause_reserved s.cop0.cause v).trans hcause⟩
  | bpc | bda | dcic | bdam | bpcm | jumpDest | badVaddr | epc | prid | absent => exact ⟨hsr, hcause⟩

/-! ### What holds within a step

Between the sampling of the lines and the end of the instruction the stages may differ and the program counters have not
moved yet. The rest of the invariant holds throughout. -/

/-- The part of `Inv` that every effect of an instruction keeps. -/
structure MidStep (s : State) : Prop where
  memory : Memory.wf s.mem = true
  zero : ZeroRegister s
  reserved : ReservedBitsZero s

theorem Inv.midStep {s : State} (h : Inv s) : MidStep s := ⟨h.memory, h.zero, h.reserved⟩

theorem MidStep.sampleLines {s : State} (h : MidStep s) : MidStep s.sampleLines :=
  ⟨h.memory, h.zero, h.reserved.1, (sampleCause_reserved ..).trans h.reserved.2⟩

theorem MidStep.readBytes {s : State} (h : MidStep s) (ls : List Loc) : MidStep (readBytes ls s).2 := by
  rw [readBytes_frame]
  exact ⟨h.memory, h.zero, h.reserved⟩

theorem MidStep.writeBytes {s : State} (h : MidStep s) (ls : List Loc) (v : Word) : MidStep (writeBytes ls v s) := by
  have hm := writeBytes_wf ls v h.memory
  rw [writeBytes_frame] at hm ⊢
  exact ⟨hm, h.zero, h.reserved⟩

theorem MidStep.setX {s : State} (h : MidStep s) (r : Reg) (v : Word) : MidStep (s.setX r v) := by
  obtain ⟨h1, h2, h3⟩ := h.zero
  obtain ⟨k1, k2, k3⟩ := s.regs.set_zeroEntries r v
  exact ⟨h.memory, ⟨k1.trans h1, k2.trans h2, k3.trans h3⟩, h.reserved⟩

theorem MidStep.setXLate {s : State} (h : MidStep s) (r : Reg) (v : Word) : MidStep (s.setXLate r v) := by
  obtain ⟨h1, h2, h3⟩ := h.zero
  refine ⟨h.memory, ⟨(s.regs.setLate_zeroEntry r v).trans h1, ?_, ?_⟩, h.reserved⟩ <;> simpa

/-- Every effect of an instruction keeps what holds within a step. -/
theorem Effect.midStep {s u : State} (e : Effect s u) (h : MidStep s) : MidStep u := by
  cases e with
  | nothing => exact h
  | writeReg r v => exact h.setX r v
  | writeHiLo | writeCop2d | writeCop2c => exact ⟨h.memory, h.zero, h.reserved⟩
  | moveToReg r v => exact h.setXLate r v
  | drawToReg r v =>
    have hd : MidStep s.drawWord.2 := ⟨h.memory, h.zero, h.reserved⟩
    exact hd.setXLate r v
  | loadReg ls r v => exact (h.readBytes ls).setXLate r v
  | storeBytes _ _ ls v => exact h.writeBytes ls v
  | writeCop0 r v => exact ⟨h.memory, h.zero, cop0Write_reserved h.reserved r v⟩
  | returnFromException => exact ⟨h.memory, h.zero, (popStatus_reserved _).trans h.reserved.1, h.reserved.2⟩
  | loadCop2d ls =>
    have hr := h.readBytes ls
    exact ⟨hr.memory, hr.zero, hr.reserved⟩

/-- A tick keeps the `$0` entries zero (rules R44, R46). -/
theorem ZeroRegister.of_tick {s t : State} (h : ZeroRegister s) (ht : t.regs = s.regs.tick) : ZeroRegister t := by
  obtain ⟨h1, h2, -⟩ := h
  unfold ZeroRegister
  rw [ht]
  exact ⟨h1, h1, h2⟩

/-- A tick leaves stages 1 and 2 equal, so exception entry restores the whole invariant (rules R47, R410). -/
theorem MidStep.enter {s : State} (h : MidStep s) (e : Exc) : Inv (s.enter e) where
  memory := h.memory
  zero := h.zero.of_tick rfl
  stages := rfl
  reserved := ⟨(pushStatus_reserved _).trans h.reserved.1, (enterCause_reserved ..).trans h.reserved.2⟩
  sequence := fun _ => rfl

/-- Retire restores the whole invariant where it sequences normally (rules R47, R52). -/
theorem MidStep.retire {s : State} (h : MidStep s) {b : Bool} {g : Option Word} (hn : NormalSequence (s.retire b g)) :
    Inv (s.retire b g) where
  memory := h.memory
  zero := h.zero.of_tick rfl
  stages := rfl
  reserved := h.reserved
  sequence := hn

theorem Ends.inv {s t : State} (h : Ends s t) (hs : MidStep s) (hn : NormalSequence t) : Inv t := by
  obtain ⟨e, rfl⟩ | ⟨u, b, g, he, rfl⟩ := h
  · exact hs.enter e
  · exact (he.midStep hs).retire hn

/-! ### Normal sequencing (rules R50 to R53)

Only a branch or jump instruction records a target, and it sets `bd`. `Ends` does not say so: it is read off the ways a
meaning can end. -/

/-- Whatever next state `r` answers sequences normally. -/
def Sequences (r : Result) : Prop := ∀ t, r = .next t → NormalSequence t

theorem raise_sequences (e : Exc) (s : State) : Sequences (raise e s) := by
  rintro t ⟨⟩ -
  rfl

theorem complete_sequences (s : State) : Sequences (complete s) := by
  rintro t ⟨⟩ -
  rfl

theorem completeBranch_sequences (g : Option Word) (s : State) : Sequences (completeBranch g s) := by
  rintro t ⟨⟩ hb
  exact absurd hb (by simp)

theorem refused_sequences (r : Refusal) : Sequences (.refused r) := nofun

theorem afterAccess_sequences {α : Type} {a : Access α} {s : State} {go : α → State → Result}
    (h : ∀ v u, Sequences (go v u)) : Sequences (afterAccess a s go) := by
  cases a with
  | done v u => exact h v u
  | raised e => exact raise_sequences e s
  | refused r => exact refused_sequences r

theorem whenUsable_sequences {z : BitVec 2} {s : State} {r : Result} (h : Sequences r) :
    Sequences (whenUsable z s r) := by
  unfold whenUsable
  split
  · exact h
  · exact raise_sequences _ s

theorem writeBackOrOverflow_sequences (rd : Reg) (r : Option Word) (s : State) :
    Sequences (writeBackOrOverflow rd r s) := by
  cases r with
  | none => exact raise_sequences .ov s
  | some v => exact complete_sequences _

theorem load_sequences {n : Nat} {f : Word → Word} {rt rs : Reg} {imm : BitVec 16} {s : State} :
    Sequences (load n f rt rs imm s) :=
  afterAccess_sequences fun _ _ => complete_sequences _

theorem store_sequences {n : Nat} {v : Word} {rs : Reg} {imm : BitVec 16} {s : State} :
    Sequences (store n v rs imm s) :=
  afterAccess_sequences fun _ _ => complete_sequences _

theorem loadPartial_sequences {merge : Word → Word → Nat → Word} {rt rs : Reg} {imm : BitVec 16} {s : State} :
    Sequences (loadPartial merge rt rs imm s) := by
  unfold loadPartial
  dsimp only
  split
  · exact raise_sequences _ s
  · exact afterAccess_sequences fun _ _ => complete_sequences _

theorem storePartial_sequences {ea addr : Word} {n : Nat} {v : Word} {s : State} :
    Sequences (storePartial ea addr n v s) := by
  unfold storePartial
  split
  · exact raise_sequences _ s
  · exact afterAccess_sequences fun _ _ => complete_sequences _

theorem execMtc0_sequences (rt rd : Reg) (s : State) : Sequences (execMtc0 rt rd s) := by
  refine whenUsable_sequences ?_
  split
  · exact refused_sequences _
  · exact complete_sequences _

/-- EVERY INSTRUCTION: outside a delay slot the next instruction is the following word. -/
theorem exec_sequences (i : Instr) (s : State) : Sequences (exec i s) := by
  cases i with
  | sll | srl | sra | sllv | srlv | srav | mfhi | mthi | mflo | mtlo | mult | multu | div | divu | addu | subu | and | or
  | xor | nor | slt | sltu | addiu | slti | sltiu | andi | ori | xori | lui => exact complete_sequences _
  | add | sub | addi => exact writeBackOrOverflow_sequences _ _ s
  | jr | jalr | j | jal | bltz | bgez | bltzal | bgezal | beq | bne | blez | bgtz => exact completeBranch_sequences _ _
  | syscall | brk => exact raise_sequences _ s
  | lb | lh | lw | lbu | lhu => exact load_sequences
  | lwl | lwr => exact loadPartial_sequences
  | sb | sh | sw => exact store_sequences
  | swl | swr => exact storePartial_sequences
  | mtc0 rt rd => exact execMtc0_sequences rt rd s
  | mfc0 | rfe | mfc2 | cfc2 | mtc2 | ctc2 => exact whenUsable_sequences (complete_sequences _)
  | lwc2 => exact whenUsable_sequences (afterAccess_sequences fun _ _ => complete_sequences _)
  | swc2 => exact whenUsable_sequences (store_sequences)
  | cfc0 | ctc0 | bc0f | bc0t | cop0 | lwc0 | swc0 | bc2f | bc2t | cop2 | cop1 | lwc1 | swc1 | cop3 | lwc3 | swc3 =>
    exact whenUsable_sequences (refused_sequences _)

theorem rejectWord_sequences (r : Reject) (s : State) : Sequences (rejectWord r s) := by
  intro t h
  obtain ⟨e, rfl⟩ := rejectWord_next h
  exact raise_sequences e s _ rfl

theorem runWord_sequences (w : Word) (s : State) : Sequences (runWord exec w s) := by
  unfold runWord
  split
  · exact exec_sequences _ s
  · exact rejectWord_sequences _ s

theorem step_sequences (s : State) : Sequences (step s) := by
  unfold step cycle afterSample
  split
  · exact raise_sequences .int _
  · exact afterAccess_sequences runWord_sequences

/-- Settles O57: what holds within a step is kept through the sampling, the fetch and the effect, and the end of the step
restores the rest. -/
theorem stepKeepsTheInvariant : Obligations.StepKeepsTheInvariant := by
  intro s t hs h
  have hm := hs.midStep.sampleLines
  obtain ⟨e, rfl⟩ | ⟨w, u, hf, hu⟩ := step_ends h
  · exact hm.enter e
  · obtain ⟨-, ls, -, -, rfl⟩ := fetchWord_done hf
    exact hu.inv (hm.readBytes ls) (step_sequences s t h)

end Sys2Proof.Machine

/-! PROOFS about the memory bus: region tables, translation, probes, fetches, and what a store leaves in storage. -/

namespace Sys2Proof.Machine

/-! ### Region tables (rules R105 to R107) -/

theorem contains_iff_inside (r : Interval) (a : Nat) : r.contains a = true ↔ Inside r a := by
  simp [Interval.contains, Inside]

theorem aligned_iff (r : Interval) : r.aligned = true ↔ r.base % 4 = 0 ∧ r.size % 4 = 0 := by
  simp [Interval.aligned]

/-- Comparing the ends decides whether two intervals share an address: if they do, they share one of the two bases. -/
theorem disjoint_iff_no_shared (p q : Interval) : p.disjoint q = true ↔ ∀ a, ¬ (Inside p a ∧ Inside q a) := by
  simp only [Interval.disjoint, Bool.or_eq_true, beq_iff_eq, decide_eq_true_eq, Inside]
  constructor
  · intro h a
    omega
  · intro h
    have atP := h p.base
    have atQ := h q.base
    omega

theorem pairwiseDisjoint_iff (rs : List Interval) :
    pairwiseDisjoint rs = true ↔ rs.Pairwise (fun p q => ∀ a, ¬ (Inside p a ∧ Inside q a)) := by
  induction rs with
  | nil => simp [pairwiseDisjoint]
  | cons p rs ih =>
    simp only [pairwiseDisjoint, Bool.and_eq_true, List.all_eq_true, List.pairwise_cons, disjoint_iff_no_shared, ih]

/-- Settles O35: `Config.valid` tests the alignment and the ends of the six intervals. -/
theorem validRegionTables : Obligations.ValidRegionTables := by
  intro c
  simp only [Config.valid, Bool.and_eq_true, List.all_eq_true, aligned_iff, pairwiseDisjoint_iff]

/-- The regions, in the order of the region table (rule R106). -/
def tableOrder : List Region := [.mainMemory, .scratchPad, .parallelPort, .ioWindow, .bootRom, .cacheControl]

theorem mem_tableOrder (r : Region) : r ∈ tableOrder := by
  cases r <;> decide

theorem intervals_eq_map (c : Config) : c.intervals = tableOrder.map (regionInterval c) := rfl

/-- Under a valid table an address lies in one region at most (rule R107). -/
theorem region_unique {c : Config} (hv : c.valid = true) {r q : Region} {a : Nat}
    (hr : Inside (regionInterval c r) a) (hq : Inside (regionInterval c q) a) : r = q := by
  obtain ⟨-, hd⟩ := (validRegionTables c).mp hv
  rw [intervals_eq_map, List.pairwise_map] at hd
  have sym : Std.Symm fun r q => ∀ a, ¬ (Inside (regionInterval c r) a ∧ Inside (regionInterval c q) a) :=
    ⟨fun _ _ h a hab => h a hab.symm⟩
  by_contra hne
  exact hd.forall (mem_tableOrder r) (mem_tableOrder q) hne a ⟨hr, hq⟩

/-! ### Matching a physical address (rules R108, R109, R122) -/

theorem locateIo_eq_some (c : Config) (off : Nat) (l : Loc) :
    locateIo c off = some l ↔ (∃ r ∈ c.ioSubranges, Inside r off) ∧ l = ⟨.ioWindow, off⟩ := by
  have answered : c.ioSubranges.any (fun r => r.contains off) = true ↔ ∃ r ∈ c.ioSubranges, Inside r off := by
    simp only [List.any_eq_true, contains_iff_inside]
  rw [← answered, locateIo]
  split
  · simp [*, eq_comm]
  · simp [*]

/-- The region a match names holds the address. -/
theorem matchesPhysical_of_matchRegion {c : Config} {p : Nat} {l : Loc} (h : matchRegion c p = some l) :
    MatchesPhysical c p l := by
  unfold matchRegion at h
  split_ifs at h with hm hs hp hi hb
  · exact .inl ⟨(contains_iff_inside ..).mp hm, (Option.some.inj h).symm⟩
  · exact .inr (.inl ⟨(contains_iff_inside ..).mp hs, (Option.some.inj h).symm⟩)
  · exact .inr (.inr (.inl ⟨(contains_iff_inside ..).mp hp, (Option.some.inj h).symm⟩))
  · exact .inr (.inr (.inr (.inl ⟨(contains_iff_inside ..).mp hi, (locateIo_eq_some ..).mp h⟩)))
  · exact .inr (.inr (.inr (.inr ⟨(contains_iff_inside ..).mp hb, (Option.some.inj h).symm⟩)))

/-- Under a valid table the order in which the regions are tried does not matter (rules R107, R108). -/
theorem matchRegion_eq_some {c : Config} (hv : c.valid = true) (p : Nat) (l : Loc) :
    matchRegion c p = some l ↔ MatchesPhysical c p l := by
  refine ⟨matchesPhysical_of_matchRegion, fun h => ?_⟩
  have hit {r : Interval} (hr : Inside r p) : r.contains p = true := (contains_iff_inside r p).mpr hr
  have miss {r : Region} (hr : Inside (regionInterval c r) p) (q : Region) (hq : q ≠ r) :
      ¬ (regionInterval c q).contains p = true :=
    fun h => hq (region_unique hv ((contains_iff_inside ..).mp h) hr)
  rcases h with ⟨h, rfl⟩ | ⟨h, rfl⟩ | ⟨h, rfl⟩ | ⟨h, hio⟩ | ⟨h, rfl⟩
  · exact if_pos (hit h)
  · have out := miss (r := .scratchPad) h
    exact (if_neg (out .mainMemory nofun)).trans (if_pos (hit h))
  · have out := miss (r := .parallelPort) h
    exact (if_neg (out .mainMemory nofun)).trans <| (if_neg (out .scratchPad nofun)).trans (if_pos (hit h))
  · have out := miss (r := .ioWindow) h
    exact (if_neg (out .mainMemory nofun)).trans <| (if_neg (out .scratchPad nofun)).trans <|
      (if_neg (out .parallelPort nofun)).trans <| (if_pos (hit h)).trans ((locateIo_eq_some ..).mpr hio)
  · have out := miss (r := .bootRom) h
    exact (if_neg (out .mainMemory nofun)).trans <| (if_neg (out .scratchPad nofun)).trans <|
      (if_neg (out .parallelPort nofun)).trans <| (if_neg (out .ioWindow nofun)).trans (if_pos (hit h))

/-- A matched byte's region holds the physical address, and that is its storage address (rule R108). -/
theorem storageAddress_of_matchesPhysical {c : Config} {p : Nat} {l : Loc} (h : MatchesPhysical c p l) :
    Inside (regionInterval c l.region) p ∧ storageAddress c l = p := by
  rcases h with ⟨h, rfl⟩ | ⟨h, rfl⟩ | ⟨h, rfl⟩ | ⟨h, -, rfl⟩ | ⟨h, rfl⟩ <;>
    exact ⟨h, Nat.add_sub_cancel' h.1⟩

/-! ### Translation (rules R101 to R104) -/

/-- The address a virtual address puts on the bus: the physical one of rule R103, in the cache-control segment the
virtual one (rule R104). -/
def busAddress (a : Word) : Nat :=
  if a.toNat < 0x80000000 then a.toNat
  else if a.toNat < 0xA0000000 then a.toNat - 0x80000000
  else if a.toNat < 0xC0000000 then a.toNat - 0xA0000000
  else a.toNat

/-- The segment of an address, by its range (rule R101). -/
theorem segmentOf_eq (a : Word) :
    segmentOf a =
      if a.toNat < 0x80000000 then .user
      else if a.toNat < 0xA0000000 then .kernelA
      else if a.toNat < 0xC0000000 then .kernelB
      else .control := by
  have top : ∀ k : BitVec 3, a.extractLsb' 29 3 = k ↔ a.toNat / 2 ^ 29 = k.toNat := fun k => by
    rw [← BitVec.toNat_inj, BitVec.extractLsb'_toNat, Nat.shiftRight_eq_div_pow]
    have := a.isLt
    omega
  simp only [segmentOf, top]
  have := a.isLt
  grind

/-- Below 0xC0000000 the physical address is matched (rules R102, R103). -/
theorem translate_physical (c : Config) {a : Word} (h : a.toNat < 0xC0000000) :
    translate c a = matchRegion c (busAddress a) := by
  unfold translate busAddress
  rw [segmentOf_eq, if_pos h, if_pos h]
  by_cases hu : a.toNat < 0x80000000
  · rw [if_pos hu, if_pos hu]
  by_cases ha : a.toNat < 0xA0000000
  · rw [if_neg hu, if_neg hu, if_pos ha, if_pos ha]
    exact congrArg (matchRegion c) (BitVec.toNat_sub_of_le (y := 0x80000000#32) (by bv_omega))
  · rw [if_neg hu, if_neg hu, if_neg ha, if_neg ha]
    exact congrArg (matchRegion c) (BitVec.toNat_sub_of_le (y := 0xA0000000#32) (by bv_omega))

/-- From 0xC0000000 up the cache-control window is reached at its virtual address (rule R104). -/
theorem translate_control {c : Config} {a : Word} {l : Loc} (h : 0xC0000000 ≤ a.toNat) :
    translate c a = some l ↔
      Inside c.cacheControl a.toNat ∧ l = ⟨.cacheControl, a.toNat - c.cacheControl.base⟩ := by
  unfold translate
  rw [segmentOf_eq, if_neg (by omega), if_neg (by omega), if_neg (by omega), ← contains_iff_inside]
  dsimp only
  split
  · simp [*, eq_comm]
  · simp [*]

/-- A translated byte's region holds the bus address, and that is its storage address (rules R103, R104, R108). -/
theorem storageAddress_of_translate {c : Config} {a : Word} {l : Loc} (h : translate c a = some l) :
    Inside (regionInterval c l.region) (busAddress a) ∧ storageAddress c l = busAddress a := by
  by_cases hc : a.toNat < 0xC0000000
  · rw [translate_physical c hc] at h
    exact storageAddress_of_matchesPhysical (matchesPhysical_of_matchRegion h)
  · have hb : busAddress a = a.toNat := by
      rw [busAddress, if_neg (by omega), if_neg (by omega), if_neg hc]
    obtain ⟨hi, rfl⟩ := (translate_control (by omega)).mp h
    rw [hb]
    exact ⟨hi, Nat.add_sub_cancel' hi.1⟩

/-- Settles O36: the segment picks the physical address, and under a valid table one region holds it. -/
theorem addressTranslation : Obligations.AddressTranslation := by
  intro c a l hv
  by_cases hc : a.toNat < 0xC0000000
  · have hn : ¬ 0xC0000000 ≤ a.toNat := by omega
    rw [translate_physical c hc, matchRegion_eq_some hv]
    unfold busAddress
    split_ifs with hu ha
    · simp [hu, hn, show ¬ 0x80000000 ≤ a.toNat by omega, show ¬ 0xA0000000 ≤ a.toNat by omega]
    · simp [hu, ha, hn, show 0x80000000 ≤ a.toNat by omega, show ¬ 0xA0000000 ≤ a.toNat by omega]
    · simp [hu, ha, hn, hc, show 0xA0000000 ≤ a.toNat by omega]
  · rw [translate_control (by omega)]
    simp [hc, show ¬ a.toNat < 0x80000000 by omega, show ¬ a.toNat < 0xA0000000 by omega,
      show 0xC0000000 ≤ a.toNat by omega]

/-! ### The boot ROM (rules R107, R114) -/

/-- A byte that a store changes lies in its own region, so outside the boot ROM. -/
theorem writable_not_in_bootRom {c : Config} (hv : c.valid = true) {a : Word} {l : Loc} (h : translate c a = some l)
    (hw : l.writable) : ¬ Inside c.bootRom (storageAddress c l) := by
  obtain ⟨hi, hs⟩ := storageAddress_of_translate h
  intro hb
  rw [hs] at hb
  exact hw.2 (region_unique hv (q := .bootRom) hi hb)

/-- The region table is the one before, and every byte of the boot ROM reads as before. -/
structure BootRomKept (s t : State) : Prop where
  cfg : t.cfg = s.cfg
  byte : ∀ a, Inside s.cfg.bootRom a → Memory.byte t.mem a = Memory.byte s.mem a

theorem BootRomKept.of_mem {s t : State} (hc : t.cfg = s.cfg) (hm : t.mem = s.mem) : BootRomKept s t :=
  ⟨hc, fun _ _ => by rw [hm]⟩

theorem BootRomKept.readBytes (s : State) (ls : List Loc) : BootRomKept s (readBytes ls s).2 := by
  rw [readBytes_frame]
  exact .of_mem rfl rfl

/-- Under a valid table no byte a store reaches is one of the boot ROM's. -/
theorem BootRomKept.writeBytes {s : State} (hv : s.cfg.valid = true) {addr : Word} {n : Nat} {ls : List Loc} (v : Word)
    (h : translateAll s.cfg addr n = some ls) : BootRomKept s (writeBytes ls v s) where
  cfg := by rw [writeBytes_frame]
  byte := fun a ha => writeBytes_byte_other v fun l hl hw he => by
    obtain ⟨_, -, ht⟩ := translateAll_get h l hl
    exact writable_not_in_bootRom hv ht hw (he ▸ ha)

theorem Effect.bootRomKept {s u : State} (e : Effect s u) (hv : s.cfg.valid = true) : BootRomKept s u := by
  cases e with
  | nothing | writeReg | writeHiLo | moveToReg | drawToReg | writeCop0 | returnFromException | writeCop2d
  | writeCop2c => exact .of_mem rfl rfl
  | loadReg ls | loadCop2d ls =>
    obtain ⟨hc, hb⟩ := BootRomKept.readBytes s ls
    exact ⟨hc, hb⟩
  | storeBytes _ _ _ v h => exact .writeBytes hv v h

theorem Ends.bootRomKept {s t : State} (h : Ends s t) (hv : s.cfg.valid = true) : BootRomKept s t := by
  obtain ⟨e, rfl⟩ | ⟨u, b, g, he, rfl⟩ := h
  · exact .of_mem rfl rfl
  · obtain ⟨hc, hb⟩ := he.bootRomKept hv
    exact ⟨hc, hb⟩

/-- Settles O46: the fetch stores nothing, and the instruction stores outside the boot ROM only. -/
theorem stepKeepsTheBootRom : Obligations.StepKeepsTheBootRom := by
  intro s t hv h
  obtain ⟨e, rfl⟩ | ⟨w, u, hf, hu⟩ := step_ends h
  · exact ⟨rfl, fun _ _ => rfl⟩
  · obtain ⟨-, ls, -, -, rfl⟩ := fetchWord_done hf
    rw [readBytes_frame] at hu
    obtain ⟨hc, hb⟩ := hu.bootRomKept hv
    exact ⟨hc, hb⟩

/-! ### Probes (rule R130) -/

/-- Settles O60: a probe asks for the region, and reads storage where it is not the I/O window. -/
theorem probeReadsStorageOnly : Obligations.ProbeReadsStorageOnly := by
  intro a s
  refine ⟨fun h => ?_, fun ⟨r, off⟩ h => ?_⟩
  · rw [probe, h]
  · rw [probe, h]
    cases r with
    | ioWindow => exact ⟨fun _ => rfl, fun hne => absurd rfl hne⟩
    | mainMemory | scratchPad | parallelPort | bootRom | cacheControl => exact ⟨nofun, fun _ => rfl⟩

/-! ### Fetches (rule R128) -/

theorem littleEndian_four (b0 b1 b2 b3 : Byte) : littleEndian [b0, b1, b2, b3] = wordOfBytes b0 b1 b2 b3 := by
  refine BitVec.eq_of_getLsbD_eq fun k hk => ?_
  simp only [littleEndian, wordOfBytes, BitVec.getLsbD_append, BitVec.getLsbD_or, BitVec.getLsbD_shiftLeft,
    BitVec.getLsbD_setWidth, BitVec.getLsbD_zero]
  grind

theorem fetchWord_bad {a : Word} {s : State} (h : a.toNat % 4 ≠ 0 ∨ Protected s a) :
    fetchWord a s = .raised (.adEL a) := by
  rw [fetchWord, addressCheck_bad h]; rfl

theorem fetchWord_unmapped {a : Word} {s : State} (h : a.toNat % 4 = 0) (hp : ¬ Protected s a)
    (hu : Unmapped s.cfg a 4) : fetchWord a s = .raised (.ibe a) := by
  rw [fetchWord, addressCheck_good h hp, translateAll_unmapped hu]

theorem fetchWord_translated {a : Word} {s : State} {ls : List Loc} (h : a.toNat % 4 = 0) (hp : ¬ Protected s a)
    (ht : translateAll s.cfg a 4 = some ls) :
    fetchWord a s = .done (littleEndian (readBytes ls s).1) (readBytes ls s).2 := by
  rw [fetchWord, addressCheck_good h hp, ht]

/-- Settles O7: the outcomes of FetchWord in the order of its checks; the four bytes read make the word. -/
theorem fetchReadsTheWordAtPc : Obligations.FetchReadsTheWordAtPc := by
  intro a s
  refine ⟨fun h => fetchWord_bad (.inl h), fun _ hp => fetchWord_bad (.inr hp), fun h hp =>
    ⟨fetchWord_unmapped h hp, fun l0 l1 l2 l3 hl => ?_⟩⟩
  refine ⟨_, _, _, _, _, readBytes_readsBytes [l0, l1, l2, l3] s, ?_⟩
  rw [fetchWord_translated h hp (translateAll_located hl)]
  exact congrArg (Access.done · _) (littleEndian_four ..)

/-! ### Exception entry -/

theorem pushStatus_stack (sr : Word) : (pushStatus sr).extractLsb' 0 6 = sr.extractLsb' 0 4 ++ 0#2 := by
  refine BitVec.eq_of_getLsbD_eq fun k hk => ?_
  simp only [pushStatus, BitVec.getLsbD_append, BitVec.getLsbD_extractLsb']
  grind

theorem enterCause_bd (cause : Word) (bd : Bool) (ce : Option (BitVec 2)) (code : BitVec 5) :
    (enterCause cause bd ce code).getLsbD 31 = bd := by
  simp only [enterCause, BitVec.getLsbD_append]
  simp

theorem enterCause_ce (cause : Word) (bd : Bool) (ce : Option (BitVec 2)) (code : BitVec 5) :
    (enterCause cause bd ce code).extractLsb' 28 2 = ce.getD (cause.extractLsb' 28 2) :=
  (field_high (by decide)).trans <| (field_high (by decide)).trans <| (field_high (by decide)).trans field_low

theorem enterCause_code (cause : Word) (bd : Bool) (ce : Option (BitVec 2)) (code : BitVec 5) :
    (enterCause cause bd ce code).extractLsb' 2 5 = code :=
  (field_high (by decide)).trans field_low

/-- EVERY EXCEPTION: what entry does, field by field (rules R410 to R416). -/
theorem enter_enters (s : State) (e : Exc) : Enters s (s.enter e) e.code e.ce e.badVaddr :=
  ⟨rfl, rfl, enterCause_bd .., enterCause_code .., enterCause_ce ..,
    and_mask_congr fun k hk hm => enterCause_bit_of_other _ _ _ _ (by revert k; decide),
    pushStatus_stack _, and_mask_congr fun k hk hm => pushStatus_bit_of_ge _ (by revert k; decide),
    regsStepped_tick rfl, rfl, rfl, rfl, rfl, ⟨rfl, rfl, rfl, rfl, rfl⟩, ⟨rfl, rfl⟩, ⟨rfl, rfl⟩,
    outsideKept_of_eq rfl rfl rfl rfl rfl rfl rfl⟩

/-- Where no interrupt is taken, a step whose fetch raises enters that exception (rules R400, R403). -/
theorem step_fetch_raises {s : State} {e : Exc} (hn : s.sampleLines.interruptTaken = false)
    (hf : fetchWord s.pc s.sampleLines = .raised e) : step s = .next (s.sampleLines.enter e) := by
  simp [step, cycle, afterSample, hn, hf]

/-- Settles O8: by `fetchWord_bad` and `fetchWord_unmapped`. -/
theorem fetchFaultsEnter : Obligations.FetchFaultsEnter := by
  intro s hn
  refine ⟨fun h => ?_, fun ha hp hu => ?_⟩
  · exact ⟨_, step_fetch_raises hn (fetchWord_bad h), enter_enters _ _⟩
  · exact ⟨_, step_fetch_raises hn (fetchWord_unmapped ha hp hu), enter_enters _ _⟩

/-! ### What a store leaves in storage (rules R118, R126) -/

@[simp] theorem writeByte_cfg (l : Loc) (b : Byte) (s : State) : (writeByte l b s).cfg = s.cfg := by
  rw [writeByte_frame]

@[simp] theorem writeBytes_cfg (ls : List Loc) (v : Word) (s : State) : (writeBytes ls v s).cfg = s.cfg := by
  rw [writeBytes_frame]

theorem writeByte_byteAt {l : Loc} (hw : l.writable) (b : Byte) (s : State) : (writeByte l b s).byteAt l = b := by
  rw [State.byteAt, writeByte_cfg, writeByte_byte_same hw]

/-- Bytes stored elsewhere leave a located byte alone. -/
theorem writeBytes_byteAt_other {ls : List Loc} {s : State} {l : Loc} (v : Word)
    (h : storageAddress s.cfg l ∉ ls.map (storageAddress s.cfg)) : (writeBytes ls v s).byteAt l = s.byteAt l := by
  rw [State.byteAt, writeBytes_cfg]
  exact writeBytes_byte_other v fun m hm _ he => h (he ▸ List.mem_map_of_mem hm)

theorem byteOf_zero (v : Word) : byteOf v 0 = v.setWidth 8 := (BitVec.setWidth_eq_extractLsb' (by decide)).symm

theorem byteOf_shiftRight (v : Word) (j : Nat) : byteOf (v >>> 8) j = byteOf v (j + 1) := by
  refine BitVec.eq_of_getLsbD_eq fun k hk => ?_
  simp only [byteOf, BitVec.getLsbD_extractLsb', BitVec.getLsbD_ushiftRight, hk, decide_true, Bool.true_and]
  congr 1
  omega

/-- Bytes stored at distinct storage addresses all read back. -/
theorem writeBytes_byteAt {ls : List Loc} {s : State} (v : Word) (hw : ∀ l ∈ ls, l.writable)
    (hd : (ls.map (storageAddress s.cfg)).Nodup) :
    ls.map (writeBytes ls v s).byteAt = (List.range ls.length).map (byteOf v) := by
  induction ls generalizing v s with
  | nil => rfl
  | cons l ls ih =>
    obtain ⟨hl, hd⟩ := List.nodup_cons.mp hd
    obtain ⟨hwl, hw⟩ := List.forall_mem_cons.mp hw
    have head : (writeBytes (l :: ls) v s).byteAt l = byteOf v 0 := by
      rw [writeBytes, writeBytes_byteAt_other _ (by rwa [writeByte_cfg]), writeByte_byteAt hwl, byteOf_zero]
    have tail : ls.map (writeBytes (l :: ls) v s).byteAt = (List.range ls.length).map (byteOf (v >>> 8)) :=
      ih (v >>> 8) hw (by rwa [writeByte_cfg])
    rw [List.map_cons, head, tail, List.length_cons, List.range_succ_eq_map, List.map_cons, List.map_map]
    exact congrArg _ (List.map_congr_left fun j _ => byteOf_shiftRight v j)

/-- What SB, SH and SW answer where every byte is translated and SR.IsC is 0 (rules R126, R310). -/
theorem store_translated {n : Nat} {v : Word} {rs : Reg} {imm : BitVec 16} {s : State} {ls : List Loc}
    (ha : (effectiveAddress s rs imm).toNat % n = 0) (hp : ¬ Protected s (effectiveAddress s rs imm))
    (hi : ¬ Isolated s) (ht : translateAll s.cfg (effectiveAddress s rs imm) n = some ls) :
    store n v rs imm s = .next ((writeBytes ls v s).retire false none) := by
  have hm : memWrite (effectiveAddress s rs imm) n v s = .done () (writeBytes ls v s) := by
    rw [memWrite_good ha hp]
    exact (if_neg hi).trans (by rw [ht])
  exact congrArg (afterAccess · s fun _ u => complete u) hm

/-! ### The segments reach the same bytes (rule R116) -/

theorem busAddress_add_kernelB {a : Word} (h : 0x80000000 ≤ a.toNat) (h' : a.toNat < 0xA0000000) :
    busAddress (a + 0x20000000#32) = busAddress a := by
  have hn : (a + 0x20000000#32).toNat = a.toNat + 0x20000000 := by bv_omega
  unfold busAddress
  rw [hn]
  split_ifs <;> omega

theorem busAddress_sub_user {a : Word} (h : 0x80000000 ≤ a.toNat) (h' : a.toNat < 0xA0000000) :
    busAddress (a - 0x80000000#32) = busAddress a := by
  have hn : (a - 0x80000000#32).toNat = a.toNat - 0x80000000 := by bv_omega
  unfold busAddress
  rw [hn]
  split_ifs <;> omega

/-- Settles O37: the three addresses put the same physical address on the bus, so the byte stored reads back. -/
theorem segmentsAlias : Obligations.SegmentsAlias := by
  intro c a h h'
  have kernelB : translate c (a + 0x20000000) = translate c a := by
    rw [translate_physical c (by bv_omega), translate_physical c (by omega)]
    exact congrArg _ (busAddress_add_kernelB h h')
  refine ⟨kernelB, ?_, ?_⟩
  · rw [translate_physical c (by bv_omega), translate_physical c (by omega)]
    exact congrArg _ (busAddress_sub_user h h')
  · rintro rt rs imm s t l rfl rfl hp hi ht hw he
    refine ⟨l, kernelB.trans ht, ?_⟩
    have hs : exec (.sb rt rs imm) s = .next ((writeBytes [l] (s.x rt) s).retire false none) :=
      store_translated (Nat.mod_one _) hp hi (by simp [translateAll, ht])
    obtain rfl := Host.Outcome.next.inj (he.symm.trans hs)
    exact writeByte_byteAt hw _ s

/-! ### A stored word is fetched (rule R134) -/

/-- The storage addresses of the bytes of an access. -/
theorem storageAddresses_of_translateAll {c : Config} {a : Word} {n : Nat} {ls : List Loc}
    (h : translateAll c a n = some ls) :
    ls.map (storageAddress c) = (List.range n).map fun j => busAddress (a + BitVec.ofNat 32 j) := by
  induction n generalizing a ls with
  | zero => cases h; rfl
  | succ n ih =>
    obtain ⟨l, rest, hl, hr, rfl⟩ := (translateAll_succ ..).mp h
    rw [List.map_cons, ih hr, (storageAddress_of_translate hl).2, List.range_succ_eq_map, List.map_cons, List.map_map,
      BitVec.add_zero]
    exact congrArg _ (List.map_congr_left fun j _ => congrArg busAddress (add_ofNat_succ a j))

/-- The bytes of an aligned word lie in one segment, so their bus addresses follow one another. -/
theorem busAddress_add {a : Word} (ha : a.toNat % 4 = 0) {j : Nat} (hj : j < 4) :
    busAddress (a + BitVec.ofNat 32 j) = busAddress a + j := by
  have hn : (a + BitVec.ofNat 32 j).toNat = a.toNat + j := by
    have := a.isLt
    rw [BitVec.toNat_add, BitVec.toNat_ofNat]
    omega
  unfold busAddress
  rw [hn]
  split_ifs <;> omega

/-- The four bytes of an aligned word have distinct storage addresses. -/
theorem storageAddresses_nodup {c : Config} {a : Word} {ls : List Loc} (ha : a.toNat % 4 = 0)
    (h : translateAll c a 4 = some ls) : (ls.map (storageAddress c)).Nodup := by
  rw [storageAddresses_of_translateAll h]
  refine List.Nodup.map_on (fun i hi j hj he => ?_) List.nodup_range
  rw [busAddress_add ha (List.mem_range.mp hi), busAddress_add ha (List.mem_range.mp hj)] at he
  omega

/-- A fetch of four storage bytes reads no more than storage. -/
theorem fetchWord_storage {a : Word} {s : State} {ls : List Loc} (h : a.toNat % 4 = 0) (hp : ¬ Protected s a)
    (ht : translateAll s.cfg a 4 = some ls) (hs : ∀ l ∈ ls, l.inStorage) :
    fetchWord a s = .done (littleEndian (ls.map s.byteAt)) s := by
  rw [fetchWord_translated h hp ht, readBytes_storage hs]

/-- Settles O44: the four bytes are stored at distinct addresses, and the fetch puts them together again. -/
theorem storedWordIsFetched : Obligations.StoredWordIsFetched := by
  intro rt rs imm s t u ea he ha hp hi hl hm hc hp'
  obtain ⟨ls, ht⟩ : ∃ ls, translateAll s.cfg ea 4 = some ls := translateAll_some fun j hj => by
    obtain ⟨l, hl, -⟩ := hl j hj
    simp [hl]
  have hw : ∀ l ∈ ls, l.writable := fun l hm => by
    obtain ⟨j, hj, hj'⟩ := translateAll_get ht l hm
    obtain ⟨_, hl, hw⟩ := hl j hj
    rwa [Option.some.inj (hj'.symm.trans hl)]
  have hs : exec (.sw rt rs imm) s = .next ((writeBytes ls (s.x rt) s).retire false none) :=
    store_translated ha hp hi ht
  obtain rfl := Host.Outcome.next.inj (he.symm.trans hs)
  have hcfg : u.cfg = s.cfg := hc.trans (writeBytes_cfg ..)
  have hbyte : u.byteAt = (writeBytes ls (s.x rt) s).byteAt := by
    funext l
    rw [State.byteAt, hm, hc]; rfl
  have hlen : ls.length = 4 := by
    simpa using congrArg List.length (storageAddresses_of_translateAll ht)
  rw [fetchWord_storage ha hp' (hcfg ▸ ht) (fun l hm => (hw l hm).1), hbyte,
    writeBytes_byteAt _ hw (storageAddresses_nodup ha ht), hlen]
  exact congrArg (Access.done · u) ((littleEndian_four ..).trans (wordOfBytes_byteOf _))

end Sys2Proof.Machine

/-! PROOFS about the encoding: the bits a row uses, decoding as the inverse of encoding, and the words that are no
instruction of the table. -/

namespace Sys2Proof

/-! ### A word and its fields (rules R160 to R163) -/

theorem rForm_fields (w : Word) : rForm (opOf w) (rsOf w) (rtOf w) (rdOf w) (shamtOf w) (functOf w) = w := by
  refine BitVec.eq_of_getLsbD_eq fun k hk => ?_
  simp only [rForm, opOf, rsOf, rtOf, rdOf, shamtOf, functOf, BitVec.getLsbD_append, BitVec.getLsbD_extractLsb']
  grind

theorem iForm_fields (w : Word) : iForm (opOf w) (rsOf w) (rtOf w) (immOf w) = w := by
  refine BitVec.eq_of_getLsbD_eq fun k hk => ?_
  simp only [iForm, opOf, rsOf, rtOf, immOf, BitVec.getLsbD_append, BitVec.getLsbD_extractLsb']
  grind

theorem iForm_of_fields {w : Word} {op : BitVec 6} {rs rt : Reg} (hop : opOf w = op) (hrs : rsOf w = rs)
    (hrt : rtOf w = rt) : iForm op rs rt (immOf w) = w := by
  rw [← hop, ← hrs, ← hrt, iForm_fields]

theorem jForm_of_fields {w : Word} {op : BitVec 6} (hop : opOf w = op) : jForm op (targetOf w) = w := by
  refine BitVec.eq_of_getLsbD_eq fun k hk => ?_
  simp only [← hop, jForm, opOf, targetOf, BitVec.getLsbD_append, BitVec.getLsbD_extractLsb']
  grind

theorem codeForm_of_fields {w : Word} {op funct : BitVec 6} (hop : opOf w = op) (hf : functOf w = funct) :
    codeForm op (codeOf w) funct = w := by
  refine BitVec.eq_of_getLsbD_eq fun k hk => ?_
  simp only [← hop, ← hf, codeForm, opOf, codeOf, functOf, BitVec.getLsbD_append, BitVec.getLsbD_extractLsb']
  grind

theorem coForm_of_fields {w : Word} {op : BitVec 6} (hop : opOf w = op) (hco : coOf w = 1#1) :
    coForm op (cofunOf w) = w := by
  refine BitVec.eq_of_getLsbD_eq fun k hk => ?_
  rw [coForm, ← hop, ← hco]
  simp only [opOf, coOf, cofunOf, BitVec.getLsbD_append, BitVec.getLsbD_extractLsb']
  grind

/-- The bit that marks a coprocessor function is the top bit of the selector (rule R170). -/
theorem coOf_eq (w : Word) : coOf w = (rsOf w).extractLsb' 4 1 := by
  conv_lhs => rw [← rForm_fields w, coOf_rForm]

theorem coOf_eq_one_iff (w : Word) : coOf w = 1#1 ↔ rsOf w &&& 0x10#5 = 0x10#5 := by
  rw [coOf_eq]
  generalize rsOf w = r
  revert r
  decide

/-- The low part of the coprocessor function is the function code (rule R163). -/
theorem cofunOf_funct (w : Word) : (cofunOf w).extractLsb' 0 6 = functOf w := by
  refine BitVec.eq_of_getLsbD_eq fun k hk => ?_
  simp only [cofunOf, functOf, BitVec.getLsbD_extractLsb']
  grind

theorem fields_of_rForm_eq {a a' : BitVec 6} {b b' c c' d d' : Reg} {e e' : BitVec 5} {f f' : BitVec 6}
    (h : rForm a b c d e f = rForm a' b' c' d' e' f') :
    a = a' ∧ b = b' ∧ c = c' ∧ d = d' ∧ e = e' ∧ f = f' := by
  refine ⟨?_, ?_, ?_, ?_, ?_, ?_⟩
  · simpa using congrArg opOf h
  · simpa using congrArg rsOf h
  · simpa using congrArg rtOf h
  · simpa using congrArg rdOf h
  · simpa using congrArg shamtOf h
  · simpa using congrArg functOf h

theorem fields_of_iForm_eq {a a' : BitVec 6} {b b' c c' : Reg} {d d' : BitVec 16}
    (h : iForm a b c d = iForm a' b' c' d') : a = a' ∧ b = b' ∧ c = c' ∧ d = d' := by
  refine ⟨?_, ?_, ?_, ?_⟩
  · simpa using congrArg opOf h
  · simpa using congrArg rsOf h
  · simpa using congrArg rtOf h
  · simpa using congrArg immOf h

/-! ### The bits a row uses, field by field (rule R172)

One lemma per value of `OpcodeRow.used`, named after the fields it keeps beside the opcode and the function code. -/

theorem and_rForm (w : Word) (a : BitVec 6) (b c d : Reg) (e : BitVec 5) (f : BitVec 6) :
    w &&& rForm a b c d e f =
      rForm (opOf w &&& a) (rsOf w &&& b) (rtOf w &&& c) (rdOf w &&& d) (shamtOf w &&& e) (functOf w &&& f) := by
  conv_lhs => rw [← rForm_fields w, rForm_and]

theorem and_iForm (w : Word) (a : BitVec 6) (b c : Reg) (d : BitVec 16) :
    w &&& iForm a b c d = iForm (opOf w &&& a) (rsOf w &&& b) (rtOf w &&& c) (immOf w &&& d) := by
  conv_lhs => rw [← iForm_fields w, iForm_and]

theorem and_allBits (w : Word) : w &&& 0xFFFFFFFF#32 = w := BitVec.and_allOnes

theorem and_rt_rd_shamt (w : Word) :
    w &&& 0xFC1FFFFF#32 = rForm (opOf w) 0#5 (rtOf w) (rdOf w) (shamtOf w) (functOf w) :=
  (and_rForm w (.allOnes 6) 0#5 (.allOnes 5) (.allOnes 5) (.allOnes 5) (.allOnes 6)).trans <| by
    simp only [BitVec.and_allOnes, BitVec.and_zero]

theorem and_rs_rt_rd (w : Word) :
    w &&& 0xFFFFF83F#32 = rForm (opOf w) (rsOf w) (rtOf w) (rdOf w) 0#5 (functOf w) :=
  (and_rForm w (.allOnes 6) (.allOnes 5) (.allOnes 5) (.allOnes 5) 0#5 (.allOnes 6)).trans <| by
    simp only [BitVec.and_allOnes, BitVec.and_zero]

theorem and_rs_rd (w : Word) : w &&& 0xFFE0F83F#32 = rForm (opOf w) (rsOf w) 0#5 (rdOf w) 0#5 (functOf w) :=
  (and_rForm w (.allOnes 6) (.allOnes 5) 0#5 (.allOnes 5) 0#5 (.allOnes 6)).trans <| by
    simp only [BitVec.and_allOnes, BitVec.and_zero]

theorem and_rs_rt (w : Word) : w &&& 0xFFFF003F#32 = rForm (opOf w) (rsOf w) (rtOf w) 0#5 0#5 (functOf w) :=
  (and_rForm w (.allOnes 6) (.allOnes 5) (.allOnes 5) 0#5 0#5 (.allOnes 6)).trans <| by
    simp only [BitVec.and_allOnes, BitVec.and_zero]

theorem and_rs (w : Word) : w &&& 0xFFE0003F#32 = rForm (opOf w) (rsOf w) 0#5 0#5 0#5 (functOf w) :=
  (and_rForm w (.allOnes 6) (.allOnes 5) 0#5 0#5 0#5 (.allOnes 6)).trans <| by
    simp only [BitVec.and_allOnes, BitVec.and_zero]

theorem and_rd (w : Word) : w &&& 0xFC00F83F#32 = rForm (opOf w) 0#5 0#5 (rdOf w) 0#5 (functOf w) :=
  (and_rForm w (.allOnes 6) 0#5 0#5 (.allOnes 5) 0#5 (.allOnes 6)).trans <| by
    simp only [BitVec.and_allOnes, BitVec.and_zero]

/-- The rows of the coprocessor moves, which ignore the function code. -/
theorem and_selector_rt_rd (w : Word) :
    w &&& 0xFFFFF800#32 = rForm (opOf w) (rsOf w) (rtOf w) (rdOf w) 0#5 0#6 :=
  (and_rForm w (.allOnes 6) (.allOnes 5) (.allOnes 5) (.allOnes 5) 0#5 0#6).trans <| by
    simp only [BitVec.and_allOnes, BitVec.and_zero]

/-- RFE's row: of the selector it looks at `w[25]` only. -/
theorem and_co (w : Word) : w &&& 0xFE00003F#32 = rForm (opOf w) (rsOf w &&& 0x10#5) 0#5 0#5 0#5 (functOf w) :=
  (and_rForm w (.allOnes 6) 0x10#5 0#5 0#5 0#5 (.allOnes 6)).trans <| by
    simp only [BitVec.and_allOnes, BitVec.and_zero]

theorem and_rs_imm (w : Word) : w &&& 0xFFE0FFFF#32 = iForm (opOf w) (rsOf w) 0#5 (immOf w) :=
  (and_iForm w (.allOnes 6) (.allOnes 5) 0#5 (.allOnes 16)).trans <| by
    simp only [BitVec.and_allOnes, BitVec.and_zero]

theorem and_rt_imm (w : Word) : w &&& 0xFC1FFFFF#32 = iForm (opOf w) 0#5 (rtOf w) (immOf w) :=
  (and_iForm w (.allOnes 6) 0#5 (.allOnes 5) (.allOnes 16)).trans <| by
    simp only [BitVec.and_allOnes, BitVec.and_zero]

/-! ### Decoding an encoding (rules R167 to R171) -/

theorem cop0_wellFormed_iff (cofun : BitVec 25) :
    (Instr.cop0 cofun).WellFormed ↔ cofun.extractLsb' 0 6 ≠ 0x10#6 := bne_iff_ne

/-- The decoder reads back each field the encoder laid out; only COP0 functions are shared by two instructions. -/
theorem decode_encode {i : Instr} (h : i.WellFormed) : decode (encode i) = .ok i := by
  cases i with
  | cop0 cofun => simp [encode, decode, decodeCop0, (cop0_wellFormed_iff cofun).mp h]
  | _ => simp [encode, decode, decodeSpecial, decodeBcond, decodeCop0, decodeCop2]

/-- Settles O1: by `decode_encode`. -/
theorem decodeOfEncodeIsTheInstruction : Obligations.DecodeOfEncodeIsTheInstruction := fun _ h => decode_encode h

/-! ### A decoded word agrees with its encoding on the bits used (rule R172) -/

theorem encode_of_decodeSpecial {w : Word} {i : Instr} (hop : opOf w = 0x00#6) (h : decodeSpecial w = .ok i) :
    i.WellFormed ∧ w &&& i.row.used = encode i := by
  unfold decodeSpecial at h
  split at h <;> rename_i hf <;> cases h <;> refine ⟨rfl, ?_⟩
  all_goals
    simp [Instr.row, encode, and_rt_rd_shamt, and_rs_rt_rd, and_rs_rd, and_rs_rt, and_rs, and_rd, and_allBits,
      codeForm_of_fields hop hf, hop, hf]

theorem encode_of_decodeBcond {w : Word} {i : Instr} (hop : opOf w = 0x01#6) (h : decodeBcond w = .ok i) :
    i.WellFormed ∧ w &&& i.row.used = encode i := by
  unfold decodeBcond at h
  split at h <;> rename_i hrt <;> cases h
  all_goals exact ⟨rfl, (and_allBits w).trans (iForm_of_fields hop rfl hrt).symm⟩

theorem encode_of_decodeCop0 {w : Word} {i : Instr} (hop : opOf w = 0x10#6) (h : decodeCop0 w = .ok i) :
    i.WellFormed ∧ w &&& i.row.used = encode i := by
  unfold decodeCop0 at h
  split at h
  case isTrue hco =>
    split at h <;> rename_i hf <;> cases h
    · refine ⟨rfl, (and_co w).trans ?_⟩
      rw [hop, (coOf_eq_one_iff w).mp hco, hf]
      rfl
    · exact ⟨(cop0_wellFormed_iff _).mpr (cofunOf_funct w ▸ hf),
        (and_allBits w).trans (coForm_of_fields hop hco).symm⟩
  case isFalse =>
    split at h <;> rename_i hrs
    case h_5 =>
      split at h <;> rename_i hrt <;> cases h
      all_goals exact ⟨rfl, (and_allBits w).trans (iForm_of_fields hop hrs hrt).symm⟩
    all_goals cases h
    all_goals exact ⟨rfl, (and_selector_rt_rd w).trans (by rw [hop, hrs]; rfl)⟩

theorem encode_of_decodeCop2 {w : Word} {i : Instr} (hop : opOf w = 0x12#6) (h : decodeCop2 w = .ok i) :
    i.WellFormed ∧ w &&& i.row.used = encode i := by
  unfold decodeCop2 at h
  split at h
  case isTrue hco =>
    cases h
    exact ⟨rfl, (and_allBits w).trans (coForm_of_fields hop hco).symm⟩
  case isFalse =>
    split at h <;> rename_i hrs
    case h_5 =>
      split at h <;> rename_i hrt <;> cases h
      all_goals exact ⟨rfl, (and_allBits w).trans (iForm_of_fields hop hrs hrt).symm⟩
    all_goals cases h
    all_goals exact ⟨rfl, (and_selector_rt_rd w).trans (by rw [hop, hrs]; rfl)⟩

/-- The arms of `decode` are numbered in its order: 1 is SPECIAL, 2 BCOND, 17 COP0 and 19 COP2. -/
theorem encode_of_decode {w : Word} {i : Instr} (h : decode w = .ok i) :
    i.WellFormed ∧ w &&& i.row.used = encode i := by
  unfold decode at h
  dsimp only at h
  split at h <;> rename_i hop
  case h_1 => exact encode_of_decodeSpecial hop h
  case h_2 => exact encode_of_decodeBcond hop h
  case h_17 => exact encode_of_decodeCop0 hop h
  case h_19 => exact encode_of_decodeCop2 hop h
  all_goals cases h
  all_goals
    refine ⟨rfl, ?_⟩
    simp [Instr.row, encode, and_rs_imm, and_rt_imm, and_allBits, iForm_of_fields hop rfl rfl, jForm_of_fields hop, hop]

/-! ### A word that agrees with an encoding on the bits used decodes to it (rule R172) -/

/-- A row that uses every bit leaves no other word than the encoding; the rest are taken row shape by row shape. -/
theorem decode_of_and_used {w : Word} {i : Instr} (hi : i.WellFormed) (h : w &&& i.row.used = encode i) :
    decode w = .ok i := by
  cases i with
  | sll | srl | sra =>
    obtain ⟨hop, -, rfl, rfl, rfl, hf⟩ := fields_of_rForm_eq ((and_rt_rd_shamt w).symm.trans h)
    simp [decode, decodeSpecial, hop, hf]
  | sllv | srlv | srav | add | addu | sub | subu | and | or | xor | nor | slt | sltu =>
    obtain ⟨hop, rfl, rfl, rfl, -, hf⟩ := fields_of_rForm_eq ((and_rs_rt_rd w).symm.trans h)
    simp [decode, decodeSpecial, hop, hf]
  | jr | mthi | mtlo =>
    obtain ⟨hop, rfl, -, -, -, hf⟩ := fields_of_rForm_eq ((and_rs w).symm.trans h)
    simp [decode, decodeSpecial, hop, hf]
  | jalr =>
    obtain ⟨hop, rfl, -, rfl, -, hf⟩ := fields_of_rForm_eq ((and_rs_rd w).symm.trans h)
    simp [decode, decodeSpecial, hop, hf]
  | mfhi | mflo =>
    obtain ⟨hop, -, -, rfl, -, hf⟩ := fields_of_rForm_eq ((and_rd w).symm.trans h)
    simp [decode, decodeSpecial, hop, hf]
  | mult | multu | div | divu =>
    obtain ⟨hop, rfl, rfl, -, -, hf⟩ := fields_of_rForm_eq ((and_rs_rt w).symm.trans h)
    simp [decode, decodeSpecial, hop, hf]
  | blez | bgtz =>
    obtain ⟨hop, rfl, -, rfl⟩ := fields_of_iForm_eq ((and_rs_imm w).symm.trans h)
    simp [decode, hop]
  | lui =>
    obtain ⟨hop, -, rfl, rfl⟩ := fields_of_iForm_eq ((and_rt_imm w).symm.trans h)
    simp [decode, hop]
  | mfc0 | cfc0 | mtc0 | ctc0 | mfc2 | cfc2 | mtc2 | ctc2 =>
    obtain ⟨hop, hrs, rfl, rfl, -, -⟩ := fields_of_rForm_eq ((and_selector_rt_rd w).symm.trans h)
    simp [decode, decodeCop0, decodeCop2, hop, hrs, coOf_eq]
  | rfe =>
    have hw : rForm (opOf w) (rsOf w &&& 0x10#5) 0#5 0#5 0#5 (functOf w) = rForm 0x10#6 0x10#5 0#5 0#5 0#5 0x10#6 :=
      (and_co w).symm.trans h
    obtain ⟨hop, hco, -, -, -, hf⟩ := fields_of_rForm_eq hw
    simp [decode, decodeCop0, hop, (coOf_eq_one_iff w).mpr hco, hf]
  | _ =>
    obtain rfl := (and_allBits w).symm.trans h
    exact decode_encode hi

/-- Settles O2: `encode_of_decode` one way, `decode_of_and_used` the other. -/
theorem unusedFieldsAreIgnored : Obligations.UnusedFieldsAreIgnored := fun _ _ =>
  ⟨encode_of_decode, fun ⟨hi, h⟩ => decode_of_and_used hi h⟩

end Sys2Proof

namespace Sys2Proof.Machine

/-! ### The decoder by primary opcode (rule R167) -/

theorem decode_special {w : Word} (h : opOf w = 0x00#6) : decode w = decodeSpecial w := by simp [decode, h]

theorem decode_bcond {w : Word} (h : opOf w = 0x01#6) : decode w = decodeBcond w := by simp [decode, h]

theorem decode_cop0 {w : Word} (h : opOf w = 0x10#6) : decode w = decodeCop0 w := by simp [decode, h]

theorem decode_cop2 {w : Word} (h : opOf w = 0x12#6) : decode w = decodeCop2 w := by simp [decode, h]

/-! ### Reserved words (rule R173) -/

theorem opOf_toNat (w : Word) : (opOf w).toNat = w.toNat / 2 ^ 26 := by
  rw [opOf, BitVec.extractLsb'_toNat, Nat.shiftRight_eq_div_pow]
  exact Nat.mod_eq_of_lt (by omega)

theorem functOf_toNat (w : Word) : (functOf w).toNat = w.toNat % 2 ^ 6 := by
  rw [functOf, BitVec.extractLsb'_toNat, Nat.shiftRight_zero]

/-- The primary opcodes rule R173 lists. -/
abbrev ReservedOpcode (op : BitVec 6) : Prop :=
  (0x14 ≤ op.toNat ∧ op.toNat ≤ 0x1F) ∨ op.toNat = 0x27 ∨ op.toNat = 0x2C ∨ op.toNat = 0x2D ∨ op.toNat = 0x2F ∨
    (0x34 ≤ op.toNat ∧ op.toNat ≤ 0x37) ∨ (0x3C ≤ op.toNat ∧ op.toNat ≤ 0x3F)

/-- The SPECIAL functions rule R168 reserves. -/
abbrev ReservedFunction (f : BitVec 6) : Prop :=
  f.toNat = 0x01 ∨ f.toNat = 0x05 ∨ f.toNat = 0x0A ∨ f.toNat = 0x0B ∨ f.toNat = 0x0E ∨ f.toNat = 0x0F ∨
    (0x14 ≤ f.toNat ∧ f.toNat ≤ 0x17) ∨ (0x1C ≤ f.toNat ∧ f.toNat ≤ 0x1F) ∨ f.toNat = 0x28 ∨ f.toNat = 0x29 ∨
    (0x2C ≤ f.toNat ∧ f.toNat ≤ 0x3F)

theorem reservedWord_iff (w : Word) :
    ReservedWord w ↔ ReservedOpcode (opOf w) ∨ opOf w = 0x00#6 ∧ ReservedFunction (functOf w) := by
  unfold ReservedWord
  rw [← BitVec.toNat_inj]
  simp only [ReservedOpcode, ReservedFunction, ← opOf_toNat, ← functOf_toNat, or_assoc]
  rfl

/-- The primary opcodes `decode` has an arm for (rule R167). -/
def definedOpcodes : List (BitVec 6) :=
  [0x00, 0x01, 0x02, 0x03, 0x04, 0x05, 0x06, 0x07, 0x08, 0x09, 0x0A, 0x0B, 0x0C, 0x0D, 0x0E, 0x0F, 0x10, 0x11, 0x12,
    0x13, 0x20, 0x21, 0x22, 0x23, 0x24, 0x25, 0x26, 0x28, 0x29, 0x2A, 0x2B, 0x2E, 0x30, 0x31, 0x32, 0x33, 0x38, 0x39,
    0x3A, 0x3B]

/-- The functions `decodeSpecial` has an arm for (rule R168). -/
def definedFunctions : List (BitVec 6) :=
  [0x00, 0x02, 0x03, 0x04, 0x06, 0x07, 0x08, 0x09, 0x0C, 0x0D, 0x10, 0x11, 0x12, 0x13, 0x18, 0x19, 0x1A, 0x1B, 0x20,
    0x21, 0x22, 0x23, 0x24, 0x25, 0x26, 0x27, 0x2A, 0x2B]

theorem reservedOpcode_or_defined : ∀ op, ReservedOpcode op ∨ op ∈ definedOpcodes := by decide

theorem reservedFunction_or_defined : ∀ f, ReservedFunction f ∨ f ∈ definedFunctions := by decide

theorem decodeSpecial_reserved_iff (w : Word) :
    decodeSpecial w = .error .reservedInstruction ↔ ReservedFunction (functOf w) := by
  unfold decodeSpecial
  dsimp only
  split
  case h_29 =>
    refine iff_of_true rfl ((reservedFunction_or_defined _).resolve_right fun hm => ?_)
    simp_all [definedFunctions]
  all_goals
    rename_i hf
    exact iff_of_false nofun (by rw [hf]; decide)

theorem decodeBcond_not_reserved (w : Word) : decodeBcond w ≠ .error .reservedInstruction := by
  unfold decodeBcond
  split <;> nofun

theorem decodeCop0_not_reserved (w : Word) : decodeCop0 w ≠ .error .reservedInstruction := by
  unfold decodeCop0
  repeat' split
  all_goals nofun

theorem decodeCop2_not_reserved (w : Word) : decodeCop2 w ≠ .error .reservedInstruction := by
  unfold decodeCop2
  repeat' split
  all_goals nofun

/-- The arms of `decode` are numbered in its order: 1 is SPECIAL, 2 BCOND, 17 COP0, 19 COP2 and 41 every other opcode. -/
theorem decode_reserved_iff (w : Word) : decode w = .error .reservedInstruction ↔ ReservedWord w := by
  rw [reservedWord_iff]
  unfold decode
  dsimp only
  split <;> rename_i hop
  case h_1 =>
    rw [decodeSpecial_reserved_iff, hop]
    simp
  case h_2 => exact iff_of_false (decodeBcond_not_reserved w) (by rw [hop]; simp)
  case h_17 => exact iff_of_false (decodeCop0_not_reserved w) (by rw [hop]; simp)
  case h_19 => exact iff_of_false (decodeCop2_not_reserved w) (by rw [hop]; simp)
  case h_41 =>
    refine iff_of_true rfl (.inl ((reservedOpcode_or_defined _).resolve_right fun hm => ?_))
    simp_all [definedOpcodes]
  all_goals exact iff_of_false nofun (by rw [hop]; simp)

/-! ### A step that fetches a word -/

theorem step_of_fetches {s u : State} {w : Word} (h : Fetches s w u) : step s = runWord exec w u := by
  obtain ⟨hn, hf⟩ := h
  rw [step, cycle, afterSample, if_neg (by simp [hn]), hf, afterAccess_done]

theorem step_of_rejected {s u : State} {w : Word} {r : Reject} (h : Fetches s w u) (hd : decode w = .error r) :
    step s = rejectWord r u := by
  rw [step_of_fetches h, runWord, hd]

/-- Settles O3: `decode_reserved_iff`, and what the step does with a rejected word. -/
theorem reservedWordsRaiseReservedInstruction : Obligations.ReservedWordsRaiseReservedInstruction := by
  refine ⟨decode_reserved_iff, fun s u w hf hw => ?_⟩
  rw [step_of_rejected hf ((decode_reserved_iff w).mpr hw)]
  exact ⟨_, rfl, enter_enters u .ri⟩

/-! ### Undefined selectors (rules R174, R175)

Below, `simp` takes a decoder's last arm because the hypotheses in context exclude each arm before it. -/

theorem decode_undefined_bcond {rs rt : Reg} {imm : BitVec 16} (h0 : rt ≠ 0x00#5) (h1 : rt ≠ 0x01#5)
    (h2 : rt ≠ 0x10#5) (h3 : rt ≠ 0x11#5) : decode (iForm 0x01#6 rs rt imm) = .error .undecodedBcond := by
  rw [decode_bcond (opOf_iForm ..), decodeBcond, rtOf_iForm]
  simp

/-- The selectors rule R175 reserves. -/
abbrev ReservedSelector (rs : Reg) : Prop :=
  rs = 0x01 ∨ rs = 0x03 ∨ rs = 0x05 ∨ rs = 0x07 ∨ (0x09 ≤ rs.toNat ∧ rs.toNat ≤ 0x0F)

/-- A reserved selector marks no coprocessor function and is none of the defined ones. -/
theorem ReservedSelector.not_defined {rs : Reg} (h : ReservedSelector rs) :
    rs.extractLsb' 4 1 ≠ 1#1 ∧ rs ≠ 0x00#5 ∧ rs ≠ 0x02#5 ∧ rs ≠ 0x04#5 ∧ rs ≠ 0x06#5 ∧ rs ≠ 0x08#5 := by
  revert rs
  decide

theorem opOf_selector (op : BitVec 6) (rs : Reg) (low : BitVec 21) : opOf (op ++ rs ++ low) = op :=
  (field_high (by decide)).trans <| (field_high (by decide)).trans BitVec.extractLsb'_eq_self

theorem rsOf_selector (op : BitVec 6) (rs : Reg) (low : BitVec 21) : rsOf (op ++ rs ++ low) = rs :=
  (field_high (by decide)).trans field_low

theorem decode_reserved_cop0 {rs : Reg} (low : BitVec 21) (h : ReservedSelector rs) :
    decode (0x10#6 ++ rs ++ low) = .error .reservedCop0 := by
  obtain ⟨hco, h0, h2, h4, h6, h8⟩ := h.not_defined
  rw [decode_cop0 (opOf_selector ..), decodeCop0, coOf_eq, rsOf_selector, if_neg hco]
  simp

theorem decode_reserved_cop2 {rs : Reg} (low : BitVec 21) (h : ReservedSelector rs) :
    decode (0x12#6 ++ rs ++ low) = .error .reservedCop2 := by
  obtain ⟨hco, h0, h2, h4, h6, h8⟩ := h.not_defined
  rw [decode_cop2 (opOf_selector ..), decodeCop2, coOf_eq, rsOf_selector, if_neg hco]
  simp

theorem ne_sense_of_two_le {rt : Reg} (h : 2 ≤ rt.toNat) : rt ≠ 0x00#5 ∧ rt ≠ 0x01#5 := by
  revert rt
  decide

theorem decode_undefined_bc0 {rt : Reg} (imm : BitVec 16) (h : 2 ≤ rt.toNat) :
    decode (iForm 0x10#6 0x08#5 rt imm) = .error .undefinedBc0 := by
  obtain ⟨h0, h1⟩ := ne_sense_of_two_le h
  rw [decode_cop0 (opOf_iForm ..), decodeCop0]
  simp

theorem decode_undefined_bc2 {rt : Reg} (imm : BitVec 16) (h : 2 ≤ rt.toNat) :
    decode (iForm 0x12#6 0x08#5 rt imm) = .error .undefinedBc2 := by
  obtain ⟨h0, h1⟩ := ne_sense_of_two_le h
  rw [decode_cop2 (opOf_iForm ..), decodeCop2]
  simp

/-- Where the coprocessor is not usable, CpU is entered whatever the instruction (rule R343). -/
theorem whenUsable_enters_cpU {z : BitVec 2} {s : State} (h : ¬ s.copUsable z = true) (r : Result) :
    ∃ t, whenUsable z s r = .next t ∧ Enters s t 11 (some z) none :=
  ⟨_, whenUsable_no (Bool.eq_false_iff.mpr h) r, enter_enters s (.cpU z)⟩

/-- Settles O4: each word is rejected by its name, and the rejection is behind the usability check it needs. -/
theorem undefinedSelectors : Obligations.UndefinedSelectors := by
  refine ⟨fun s u rs rt imm hf h0 h1 h2 h3 => ?_, fun s u rs low hrs => ⟨fun hf => ?_, fun hf => ?_⟩,
    fun s u rt imm hrt => ⟨fun hf => ?_, fun hf => ?_⟩⟩
  · exact step_of_rejected hf (decode_undefined_bcond h0 h1 h2 h3)
  · rw [step_of_rejected hf (decode_reserved_cop0 low hrs), ← copUsable_zero]
    exact ⟨fun hu => ⟨_, whenUsable_yes hu _, enter_enters u .ri⟩, fun hu => whenUsable_enters_cpU hu _⟩
  · rw [step_of_rejected hf (decode_reserved_cop2 low hrs), ← copUsable_two]
    exact ⟨fun hu => ⟨_, whenUsable_yes hu _, enter_enters u .ri⟩, fun hu => whenUsable_enters_cpU hu _⟩
  · rw [step_of_rejected hf (decode_undefined_bc0 imm hrt), ← copUsable_zero]
    exact ⟨fun hu => whenUsable_yes hu _, fun hu => whenUsable_enters_cpU hu _⟩
  · rw [step_of_rejected hf (decode_undefined_bc2 imm hrt), ← copUsable_two]
    exact ⟨fun hu => whenUsable_yes hu _, fun hu => whenUsable_enters_cpU hu _⟩

end Sys2Proof.Machine

/-! PROOFS about the SPECIAL family: how its words decode, and what its shifts, sums, comparisons, multiplications,
divisions, moves and register jumps answer. -/

namespace Sys2Proof.Machine

/-! ### How the words decode (rules R161, R163, R172) -/

/-- A word of the register form with opcode 0 is decoded by its function code, whatever stands in its other fields. The
hypothesis picks that arm of `decodeSpecial`; for a function code written as a numeral it proves itself. -/
theorem decode_registerWord {rs rt rd : Reg} {sh : BitVec 5} {f : BitVec 6} {i : Instr}
    (h : decodeSpecial (rForm 0x00#6 rs rt rd sh f) = .ok i := by simp [decodeSpecial]) :
    decode (0x00#6 ++ rs ++ rt ++ rd ++ sh ++ f) = .ok i :=
  (decode_special (opOf_rForm ..)).trans h

/-- A word that an instruction encodes to decodes to that instruction. -/
theorem decode_of_encode_eq {i : Instr} {w : Word} (hi : i.WellFormed) (h : encode i = w) : decode w = .ok i :=
  h ▸ decode_encode hi

/-- Settles O5: each word is the encoding of its instruction. -/
theorem exampleWordsDecode : Obligations.ExampleWordsDecode := by
  and_intros <;> exact decode_of_encode_eq rfl rfl

/-! ### How the instructions end -/

/-- An instruction that raises takes that exception from the state before it (rules R402, R410). -/
theorem traps_of_raise {i : Instr} {s : State} {e : Exc} (h : exec i s = raise e s) :
    Traps i s e.code e.ce e.badVaddr :=
  ⟨_, h, enter_enters s e⟩

/-- `yields_writing`, with the word written given in another way. -/
theorem yields_writing_eq {i : Instr} {s : State} {rd : Reg} {v w : Word} (h : exec i s = writeBack rd v s)
    (hv : v = w) : Yields i s (fun t => RetiresWriting s t rd w) :=
  hv ▸ yields_writing h

/-- `yields_hiLo`, with the words written given in another way. -/
theorem yields_hiLo_eq {i : Instr} {s : State} {hi lo hi' lo' : Word} (h : exec i s = complete (s.setHiLo hi lo))
    (hhi : hi = hi') (hlo : lo = lo') : Yields i s (fun t => RetiresHiLo s t hi' lo') :=
  hhi ▸ hlo ▸ yields_hiLo h

/-- Settles O17: by `traps_of_raise`. -/
theorem syscallAndBreakTrap : Obligations.SyscallAndBreakTrap := fun code _ =>
  ⟨decode_of_encode_eq (i := .syscall code) rfl rfl, traps_of_raise (e := .sys) rfl,
    decode_of_encode_eq (i := .brk code) rfl rfl, traps_of_raise (e := .bp) rfl⟩

/-! ### Shifts (rules R205 to R210) -/

theorem shiftLeft_eq_product (v : Word) (n : Nat) : v <<< n = BitVec.ofNat 32 (v.toNat * 2 ^ n) := by
  apply BitVec.eq_of_toNat_eq
  rw [BitVec.toNat_shiftLeft, Nat.shiftLeft_eq, BitVec.toNat_ofNat]

theorem shiftRight_eq_quotient (v : Word) (n : Nat) : v >>> n = BitVec.ofNat 32 (v.toNat / 2 ^ n) := by
  rw [← Nat.shiftRight_eq_div_pow, ← BitVec.toNat_ushiftRight, BitVec.ofNat_toNat, BitVec.setWidth_eq]

/-- An arithmetic shift rounds towards minus infinity, as `/` on integers with a positive divisor does. -/
theorem sshiftRight_eq_quotient (v : Word) (n : Nat) : v.sshiftRight n = BitVec.ofInt 32 (v.toInt / 2 ^ n) := by
  rw [BitVec.sshiftRight, Int.shiftRight_eq_div_pow]
  norm_cast

theorem shiftAmount_toNat (v : Word) : (shiftAmount v).toNat = v.toNat % 32 := by
  rw [shiftAmount, BitVec.extractLsb'_toNat, Nat.shiftRight_zero]

/-- Settles O19: the shifts as products and quotients. -/
theorem shiftsByAConstant : Obligations.ShiftsByAConstant := fun _ _ _ _ _ =>
  ⟨decode_registerWord, yields_writing_eq rfl (shiftLeft_eq_product ..),
    decode_registerWord, yields_writing_eq rfl (shiftRight_eq_quotient ..),
    decode_registerWord, yields_writing_eq rfl (sshiftRight_eq_quotient ..)⟩

/-- Settles O20: the same shifts, by the amount of `shiftAmount_toNat`. -/
theorem shiftsByARegister : Obligations.ShiftsByARegister := by
  intro rd rt rs sh s n
  have hn : (shiftAmount (s.x rs)).toNat = n := shiftAmount_toNat _
  refine ⟨decode_registerWord, ?_, decode_registerWord, ?_, decode_registerWord, ?_⟩
  · exact yields_writing_eq rfl (hn ▸ shiftLeft_eq_product ..)
  · exact yields_writing_eq rfl (hn ▸ shiftRight_eq_quotient ..)
  · exact yields_writing_eq rfl (hn ▸ sshiftRight_eq_quotient ..)

/-! ### Sums and differences (rules R201, R223 to R226, R291, R292) -/

theorem sext16_eq_ofInt (imm : BitVec 16) : sext16 imm = BitVec.ofInt 32 imm.toInt := rfl

theorem sext16_toInt (imm : BitVec 16) : (sext16 imm).toInt = imm.toInt := BitVec.toInt_signExtend_of_le (by decide)

theorem add_eq_ofNat (a b : Word) : a + b = BitVec.ofNat 32 (a.toNat + b.toNat) := by
  simp [BitVec.ofNat_add]

theorem sub_eq_ofInt (a b : Word) : a - b = BitVec.ofInt 32 (a.toNat - b.toNat) := by
  rw [Int.sub_eq_add_neg, BitVec.ofInt_add, BitVec.ofInt_neg, BitVec.sub_eq_add_neg]
  simp

theorem add_sext16_eq_ofInt (a : Word) (imm : BitVec 16) :
    a + sext16 imm = BitVec.ofInt 32 (a.toNat + imm.toInt) := by
  rw [BitVec.ofInt_add, ← sext16_eq_ofInt]
  simp

/-- Settles O22: the wrapped results as words of exact sums and differences. -/
theorem wrappingArithmetic : Obligations.WrappingArithmetic := fun d a _ _ imm _ =>
  ⟨decode_registerWord, yields_writing_eq rfl (add_eq_ofNat ..),
    decode_registerWord, yields_writing_eq rfl (sub_eq_ofInt ..),
    decode_of_encode_eq (i := .addiu d a imm) rfl rfl, yields_writing_eq rfl (add_sext16_eq_ofInt ..)⟩

/-- The integers a signed word can hold (rule R201). -/
def FitsSigned (r : Int) : Prop := -2147483648 ≤ r ∧ r ≤ 2147483647

theorem fitSigned_of_fits {r : Int} (h : FitsSigned r) : fitSigned r = some (BitVec.ofInt 32 r) :=
  if_neg fun ho => by unfold FitsSigned at h; omega

theorem fitSigned_of_not_fits {r : Int} (h : ¬ FitsSigned r) : fitSigned r = none :=
  if_pos (by unfold FitsSigned at h; omega)

/-- A trapping instruction whose exact result fits writes it. -/
theorem yields_of_fits {i : Instr} {s : State} {rd : Reg} {r : Int}
    (he : exec i s = writeBackOrOverflow rd (fitSigned r) s) (h : FitsSigned r) :
    Yields i s (fun t => RetiresWriting s t rd (BitVec.ofInt 32 r)) :=
  yields_writing (he.trans (by rw [fitSigned_of_fits h, writeBackOrOverflow]))

/-- A trapping instruction whose exact result does not fit raises Ov, whatever its destination. -/
theorem traps_of_not_fits {i : Instr} {s : State} {rd : Reg} {r : Int}
    (he : exec i s = writeBackOrOverflow rd (fitSigned r) s) (h : ¬ FitsSigned r) : Traps i s 12 none none :=
  traps_of_raise (e := .ov) (he.trans (by rw [fitSigned_of_not_fits h, writeBackOrOverflow]))

theorem exec_addi (rt rs : Reg) (imm : BitVec 16) (s : State) :
    exec (.addi rt rs imm) s = writeBackOrOverflow rt (fitSigned ((s.x rs).toInt + imm.toInt)) s := by
  rw [← sext16_toInt imm]
  rfl

/-- Settles O21: each of the three answers by whether its exact result fits. -/
theorem trappingArithmetic : Obligations.TrappingArithmetic :=
  ⟨fun _ _ _ _ => ⟨decode_registerWord, decode_registerWord⟩,
    fun rs rt imm => decode_of_encode_eq (i := .addi rt rs imm) rfl rfl,
    fun _ _ _ _ _ => ⟨yields_of_fits rfl, traps_of_not_fits rfl, yields_of_fits rfl, traps_of_not_fits rfl,
      yields_of_fits (exec_addi ..), traps_of_not_fits (exec_addi ..)⟩⟩

/-! ### Logic (rules R227 to R230) -/

/-- Settles O23: the bits of the bitwise operations. -/
theorem logicOfRegisters : Obligations.LogicOfRegisters := by
  intro rd rs rt sh s
  refine ⟨decode_registerWord, ⟨_, yields_writing rfl, fun k _ => ?_⟩,
    decode_registerWord, ⟨_, yields_writing rfl, fun k _ => ?_⟩,
    decode_registerWord, ⟨_, yields_writing rfl, fun k _ => ?_⟩,
    decode_registerWord, ⟨_, yields_writing rfl, fun k hk => ?_⟩⟩
  · exact BitVec.getLsbD_and
  · exact BitVec.getLsbD_or
  · exact BitVec.getLsbD_xor
  · rw [BitVec.getLsbD_not, BitVec.getLsbD_or, decide_eq_true hk, Bool.true_and]

/-! ### Comparisons (rules R231, R232, R293, R294) -/

theorem truth_decide (p : Prop) [Decidable p] : truth (decide p) = if p then 1 else 0 := by
  by_cases h : p <;> simp [truth, h]

/-- The sign-extended immediate, read as unsigned. -/
theorem sext16_toNat (imm : BitVec 16) :
    ((sext16 imm).toNat : Int) = if imm.toInt < 0 then imm.toInt + 4294967296 else imm.toInt := by
  have h := BitVec.toInt_eq_toNat_cond (sext16 imm)
  rw [sext16_toInt] at h
  split_ifs at h ⊢ <;> omega

/-- Settles O25: SLTI and SLTIU compare with the two readings of the sign-extended immediate. -/
theorem comparisons : Obligations.Comparisons := by
  intro d a b sh imm s
  refine ⟨decode_registerWord, yields_writing_eq rfl (truth_decide _),
    decode_registerWord, yields_writing_eq rfl (truth_decide _),
    decode_of_encode_eq (i := .slti d a imm) rfl rfl, ?_, decode_of_encode_eq (i := .sltiu d a imm) rfl rfl, ?_⟩
  · rw [← sext16_toInt imm]
    exact yields_writing_eq rfl (truth_decide _)
  · rw [← sext16_toNat imm]
    simp only [Nat.cast_lt]
    exact yields_writing_eq rfl (truth_decide _)

/-! ### Moves of HI and LO (rules R215 to R218) -/

/-- Settles O30: by the two ways these instructions end. -/
theorem movesOfHiAndLo : Obligations.MovesOfHiAndLo := fun _ _ _ _ _ =>
  ⟨decode_registerWord, yields_writing rfl, decode_registerWord, yields_hiLo rfl,
    decode_registerWord, yields_writing rfl, decode_registerWord, yields_hiLo rfl⟩

/-! ### Products (rules R202, R219, R220) -/

/-- A signed product of two words fits 64 bits. -/
theorem ofInt_product_toInt (a b : Word) : (BitVec.ofInt 64 (a.toInt * b.toInt)).toInt = a.toInt * b.toInt := by
  have lower : -2 ^ (32 * 2 - 2) ≤ a.toInt * b.toInt := BitVec.le_toInt_mul_toInt
  have upper : a.toInt * b.toInt ≤ 2 ^ (32 * 2 - 2) := BitVec.toInt_mul_toInt_le
  exact BitVec.toInt_ofInt_eq_self (by decide) (by omega) (by omega)

/-- An unsigned product of two words fits 64 bits. -/
theorem ofNat_product_toNat (a b : Word) : (BitVec.ofNat 64 (a.toNat * b.toNat)).toNat = a.toNat * b.toNat :=
  (BitVec.toNat_ofNat ..).trans (Nat.mod_eq_of_lt BitVec.toNat_mul_toNat_lt)

/-- HI and LO together are the 64-bit product written. -/
theorem yields_product {i : Instr} {s : State} {p : BitVec 64} (h : exec i s = writeProduct p s) :
    ∃ hi lo : Word, Yields i s (fun t => RetiresHiLo s t hi lo) ∧ hi ++ lo = p :=
  ⟨_, _, yields_hiLo h, BitVec.extractLsb'_append_extractLsb'⟩

/-- Settles O27: the products fit, and HI and LO hold both halves. -/
theorem productsAreExact : Obligations.ProductsAreExact := by
  intro rs rt rd sh s
  obtain ⟨hi, lo, signed, hsigned⟩ := yields_product (i := .mult rs rt) (s := s) rfl
  obtain ⟨hi', lo', unsigned, hunsigned⟩ := yields_product (i := .multu rs rt) (s := s) rfl
  exact ⟨decode_registerWord, ⟨hi, lo, signed, hsigned ▸ ofInt_product_toInt ..⟩,
    decode_registerWord, ⟨hi', lo', unsigned, hunsigned ▸ ofNat_product_toNat ..⟩⟩

/-! ### Divisions (rules R203, R221, R222) -/

/-- The quotient of DIV where the divisor is not 0 and the quotient fits. -/
theorem quotientSigned_toInt {n d : Word} (hd : d ≠ 0#32) (h : ¬ (n = 0x80000000#32 ∧ d = 0xFFFFFFFF#32)) :
    (quotientSigned n d).toInt = n.toInt.tdiv d.toInt := by
  have fits : (n.sdiv d).toInt = n.toInt.tdiv d.toInt := BitVec.toInt_sdiv_of_ne_or_ne n d (not_and_or.mp h)
  rw [quotientSigned, if_neg hd, if_neg h, ← fits, BitVec.ofInt_toInt]

/-- The remainder of DIV where the divisor is not 0 and the quotient fits. -/
theorem remainderSigned_toInt {n d : Word} (hd : d ≠ 0#32) (h : ¬ (n = 0x80000000#32 ∧ d = 0xFFFFFFFF#32)) :
    (remainderSigned n d).toInt = n.toInt.tmod d.toInt := by
  rw [remainderSigned, if_neg hd, if_neg h, Int.mul_comm, ← Int.tmod_def, ← BitVec.toInt_srem, BitVec.ofInt_toInt]

/-- Settles O28: the three cases of the divisor; the last is truncated division of integers. -/
theorem signedDivision : Obligations.SignedDivision := by
  intro rs rt rd sh s n d
  refine ⟨decode_registerWord, fun hd hn => ?_, fun hd hn => ?_, fun hn hd => ?_,
    fun hd h => ⟨quotientSigned n d, remainderSigned n d, yields_hiLo rfl, ?_⟩⟩
  · exact yields_hiLo_eq rfl (if_pos hd) ((if_pos hd).trans (if_pos hn))
  · exact yields_hiLo_eq rfl (if_pos hd) ((if_pos hd).trans (if_neg (Int.not_le.mpr hn)))
  · have hd0 : d ≠ 0#32 := by rw [hd]; decide
    exact yields_hiLo_eq rfl ((if_neg hd0).trans (if_pos ⟨hn, hd⟩)) ((if_neg hd0).trans (if_pos ⟨hn, hd⟩))
  · have hd0 : d.toInt ≠ 0 := fun h0 => hd (BitVec.eq_of_toInt_eq h0)
    rw [quotientSigned_toInt hd h, remainderSigned_toInt hd h]
    refine ⟨(Int.tdiv_mul_add_tmod ..).symm, ?_, fun hn => Int.tmod_nonneg _ hn, fun hn => ?_⟩
    · rw [Int.natAbs_tmod]
      exact Nat.mod_lt _ (Int.natAbs_pos.mpr hd0)
    · have hneg : 0 ≤ (-n.toInt).tmod d.toInt := Int.tmod_nonneg _ (by omega)
      rw [Int.neg_tmod] at hneg
      omega

theorem quotientUnsigned_eq_udiv {n d : Word} (hd : d ≠ 0#32) : quotientUnsigned n d = n / d :=
  (if_neg hd).trans BitVec.udiv_def.symm

theorem remainderUnsigned_eq_umod {n d : Word} (hd : d ≠ 0#32) : remainderUnsigned n d = n % d :=
  (if_neg hd).trans BitVec.umod_def.symm

/-- Settles O29: both cases of the divisor; the second is division of natural numbers. -/
theorem unsignedDivision : Obligations.UnsignedDivision := by
  intro rs rt rd sh s n d
  refine ⟨decode_registerWord, fun hd => yields_hiLo_eq rfl (if_pos hd) (if_pos hd),
    fun hd => ⟨n / d, n % d, ?_, ?_, ?_⟩⟩
  · exact yields_hiLo_eq rfl (remainderUnsigned_eq_umod hd) (quotientUnsigned_eq_udiv hd)
  · rw [BitVec.toNat_udiv, BitVec.toNat_umod, Nat.div_add_mod']
  · exact BitVec.umod_lt n ((BitVec.pos_iff_ne_zero d).mpr hd)

/-! ### Jumps to a register (rules R211, R212) -/

/-- An exception entered outside a delay slot names the instruction itself (rule R413). -/
theorem Enters.outside_delay_slot {s t : State} {code : BitVec 5} {ce : Option (BitVec 2)} {bad : Option Word}
    (h : Enters s t code ce bad) (hb : s.bd = false) :
    t.lastStep = some (.excepted code) ∧ t.cop0.epc = s.pc ∧ t.cop0.badVaddr = bad.getD s.cop0.badVaddr ∧
      t.cop0.cause.getLsbD 31 = false := by
  obtain ⟨hbad, hepc, hbd, -, -, -, -, -, -, -, -, -, hlast, -⟩ := h
  rw [hb] at hepc hbd
  exact ⟨hlast, hepc, hbad, hbd⟩

/-- Settles O34: both jumps record the register's word, and a target that cannot be fetched excepts as
`fetchFaultsEnter` says. -/
theorem jumpsToARegister : Obligations.JumpsToARegister := by
  refine ⟨fun rs rt rd sh s => ?_, fun s hn hb => ?_⟩
  · exact ⟨decode_registerWord, yields_branch rfl, decode_registerWord, yields_link rfl⟩
  · obtain ⟨bad, unmapped⟩ := fetchFaultsEnter s hn
    refine ⟨fun h => ?_, fun ha hp hu => ?_⟩
    · obtain ⟨t, ht, he⟩ := bad h
      exact ⟨t, ht, he.outside_delay_slot hb⟩
    · obtain ⟨t, ht, he⟩ := unmapped ha hp hu
      obtain ⟨hlast, hepc, -, hbd⟩ := he.outside_delay_slot hb
      exact ⟨t, ht, hlast, hepc, hbd⟩

end Sys2Proof.Machine

/-! PROOFS about control transfer: what the branches and jumps of BCOND and the primary opcodes answer, and what an
exception in a delay slot leaves. -/

namespace Sys2Proof.Machine

/-! ### Conditional branches (rules R260 to R269) -/

theorem branchTarget_eq_ofInt (pc : Word) (imm : BitVec 16) :
    branchTarget pc imm = pc + 4#32 + BitVec.ofInt 32 (imm.toInt * 4) := by
  rw [branchTarget, BitVec.shiftLeft_eq_mul_twoPow, BitVec.ofInt_mul, ← sext16_eq_ofInt]
  rfl

/-- `t` is the state after a branch on `c` with the link writes `link`: it goes to its target where `c` holds, and
otherwise on after the delay slot (rules R260, R261). -/
def BranchesOn (s : State) (imm : BitVec 16) (link : Reg → Option Word) (c : Prop) (t : State) : Prop :=
  ∃ g, (c → g = some (s.pc + 4#32 + BitVec.ofInt 32 (imm.toInt * 4))) ∧ (¬ c → g = none) ∧ RetiresBranch s t g link

/-- A branch that records its target where the test `d` holds branches on what `d` decides. -/
theorem Yields.branchesOn {i : Instr} {s : State} {imm : BitVec 16} {link : Reg → Option Word} {d : Bool} {c : Prop}
    (h : Yields i s fun t => RetiresBranch s t (takenIf d (branchTarget s.pc imm)) link) (hd : d = true ↔ c) :
    Yields i s (BranchesOn s imm link c) := by
  obtain ⟨t, ht, hr⟩ := h
  refine ⟨t, ht, _, fun hc => ?_, fun hc => ?_, hr⟩
  · rw [takenIf, if_pos (hd.mpr hc), branchTarget_eq_ofInt]
  · rw [takenIf, if_neg (hd.not.mpr hc)]

/-- BLEZ ignores its `rt` field (rules R172, R268). -/
theorem decode_blez (rs rt : Reg) (imm : BitVec 16) : decode (iForm 0x06#6 rs rt imm) = .ok (.blez rs imm) := by
  simp [decode]

/-- BGTZ ignores its `rt` field (rules R172, R269). -/
theorem decode_bgtz (rs rt : Reg) (imm : BitVec 16) : decode (iForm 0x07#6 rs rt imm) = .ok (.bgtz rs imm) := by
  simp [decode]

/-- Settles O31: each branch tests its condition, and none of them links. -/
theorem conditionalBranches : Obligations.ConditionalBranches := fun rs rt imm _ =>
  ⟨decode_of_encode_eq (i := .bltz rs imm) rfl rfl, (yields_branch rfl).branchesOn decide_eq_true_iff,
    decode_of_encode_eq (i := .bgez rs imm) rfl rfl, (yields_branch rfl).branchesOn decide_eq_true_iff,
    decode_of_encode_eq (i := .beq rs rt imm) rfl rfl, (yields_branch rfl).branchesOn beq_iff_eq,
    decode_of_encode_eq (i := .bne rs rt imm) rfl rfl, (yields_branch rfl).branchesOn bne_iff_ne,
    decode_blez rs rt imm, (yields_branch rfl).branchesOn decide_eq_true_iff,
    decode_bgtz rs rt imm, (yields_branch rfl).branchesOn decide_eq_true_iff⟩

/-- Settles O32: the same tests, with the link write whether or not the branch is taken. -/
theorem linkingBranches : Obligations.LinkingBranches := fun rs imm _ =>
  ⟨decode_of_encode_eq (i := .bltzal rs imm) rfl rfl, (yields_link rfl).branchesOn decide_eq_true_iff,
    decode_of_encode_eq (i := .bgezal rs imm) rfl rfl, (yields_link rfl).branchesOn decide_eq_true_iff⟩

/-! ### Jumps (rules R270, R271) -/

/-- The target field, shifted, fills the region of the delay slot's address from its base. -/
theorem jumpTarget_eq_ofNat (pc : Word) (target : BitVec 26) :
    jumpTarget pc target = BitVec.ofNat 32 ((pc + 4#32).toNat / 2 ^ 28 * 2 ^ 28 + target.toNat * 4) := by
  apply BitVec.eq_of_toNat_eq
  have := target.isLt
  have := (pc + 4#32).isLt
  simp only [jumpTarget, BitVec.toNat_append, BitVec.extractLsb'_toNat, BitVec.toNat_ofNat, Nat.shiftRight_eq_div_pow]
  rw [← Nat.shiftLeft_add_eq_or_of_lt (by omega), ← Nat.shiftLeft_add_eq_or_of_lt (by omega)]
  simp only [Nat.shiftLeft_eq]
  omega

/-- Settles O33: by `jumpTarget_eq_ofNat`, without and with the link. -/
theorem jumpsToATarget : Obligations.JumpsToATarget := by
  intro target s goal
  have hg : jumpTarget s.pc target = goal := jumpTarget_eq_ofNat ..
  refine ⟨decode_of_encode_eq (i := .j target) rfl rfl, ?_, decode_of_encode_eq (i := .jal target) rfl rfl, ?_⟩
  · exact hg ▸ yields_branch rfl
  · exact hg ▸ yields_link rfl

/-! ### Exceptions in a delay slot (rules R274, R413) -/

/-- What an instruction can answer from `s`: only a transfer of control sets `bd`, and its one effect is the link. -/
inductive Answers (s : State) : Result → Prop where
  | enters (e : Exc) : Answers s (.next (s.enter e))
  | refuses (r : Refusal) : Answers s (.refused r)
  | completes (u : State) : Answers s (.next (u.retire false none))
  | transfers (g : Option Word) : Answers s (.next (s.retire true g))
  | links (g : Option Word) (rd : Reg) (v : Word) : Answers s (.next ((s.setX rd v).retire true g))

theorem afterAccess_answers {α : Type} {a : Access α} {s : State} {go : α → State → Result}
    (h : ∀ v u, Answers s (go v u)) : Answers s (afterAccess a s go) := by
  cases a with
  | done v u => exact h v u
  | raised e => exact .enters e
  | refused r => exact .refuses r

theorem whenUsable_answers {z : BitVec 2} {s : State} {r : Result} (h : Answers s r) : Answers s (whenUsable z s r) := by
  unfold whenUsable
  split
  · exact h
  · exact .enters _

theorem writeBackOrOverflow_answers {rd : Reg} {r : Option Word} {s : State} :
    Answers s (writeBackOrOverflow rd r s) := by
  cases r with
  | none => exact .enters .ov
  | some v => exact .completes _

theorem loadPartial_answers {merge : Word → Word → Nat → Word} {rt rs : Reg} {imm : BitVec 16} {s : State} :
    Answers s (loadPartial merge rt rs imm s) := by
  unfold loadPartial
  dsimp only
  split
  · exact .enters _
  · exact afterAccess_answers fun _ _ => .completes _

theorem storePartial_answers {ea addr : Word} {n : Nat} {v : Word} {s : State} :
    Answers s (storePartial ea addr n v s) := by
  unfold storePartial
  split
  · exact .enters _
  · exact afterAccess_answers fun _ _ => .completes _

theorem execMtc0_answers {rt rd : Reg} {s : State} : Answers s (execMtc0 rt rd s) := by
  refine whenUsable_answers ?_
  split
  · exact .refuses _
  · exact .completes _

/-- EVERY INSTRUCTION: one of the answers listed, by how its meaning ends. -/
theorem exec_answers (i : Instr) (s : State) : Answers s (exec i s) := by
  cases i with
  | sll | srl | sra | sllv | srlv | srav | mfhi | mthi | mflo | mtlo | mult | multu | div | divu | addu | subu | and | or
  | xor | nor | slt | sltu | addiu | slti | sltiu | andi | ori | xori | lui => exact .completes _
  | add | sub | addi => exact writeBackOrOverflow_answers
  | jr | j | bltz | bgez | beq | bne | blez | bgtz => exact .transfers _
  | jalr | jal | bltzal | bgezal => exact .links _ _ _
  | syscall | brk => exact .enters _
  | lb | lh | lw | lbu | lhu | sb | sh | sw => exact afterAccess_answers fun _ _ => .completes _
  | lwl | lwr => exact loadPartial_answers
  | swl | swr => exact storePartial_answers
  | mtc0 => exact execMtc0_answers
  | mfc0 | rfe | mfc2 | cfc2 | mtc2 | ctc2 => exact whenUsable_answers (.completes _)
  | lwc2 | swc2 => exact whenUsable_answers (afterAccess_answers fun _ _ => .completes _)
  | cfc0 | ctc0 | bc0f | bc0t | cop0 | lwc0 | swc0 | bc2f | bc2t | cop2 | cop1 | lwc1 | swc1 | cop3 | lwc3 | swc3 =>
    exact whenUsable_answers (.refuses _)

/-- The instruction before a delay slot leaves the slot next to run, and SR as it was. -/
theorem exec_to_delay_slot {i : Instr} {b s : State} (h : exec i b = .next s) (hbd : s.bd = true) :
    s.pc = b.npc ∧ s.cop0.sr = b.cop0.sr := by
  have ha := exec_answers i b
  rw [h] at ha
  cases ha with
  | enters | completes => cases hbd
  | transfers | links => exact ⟨rfl, rfl⟩

/-- A step that excepts enters from a state with the program counter, `bd` and SR it began with: the sampling of the
lines and the fetch change none of them. -/
theorem step_excepted {s t : State} {c : BitVec 5} (h : step s = .next t) (hc : t.lastStep = some (.excepted c)) :
    ∃ (u : State) (e : Exc), t = u.enter e ∧ u.pc = s.pc ∧ u.bd = s.bd ∧ u.cop0.sr = s.cop0.sr := by
  obtain ⟨e, rfl⟩ | ⟨w, u, hf, ⟨e, rfl⟩ | ⟨v, b, g, -, rfl⟩⟩ := step_ends h
  · exact ⟨_, e, rfl, rfl, rfl, rfl⟩
  · obtain ⟨-, ls, -, -, rfl⟩ := fetchWord_done hf
    rw [readBytes_frame]
    exact ⟨_, e, rfl, rfl, rfl, rfl⟩
  · cases hc

/-- Settles O18: the slot's address is the branch's plus 4, and exception entry takes the 4 off again. -/
theorem exceptionInADelaySlotRestartsTheBranch : Obligations.ExceptionInADelaySlotRestartsTheBranch := by
  intro i b s t c hb hbd hnpc hs hc
  obtain ⟨hpc, hsr⟩ := exec_to_delay_slot hb hbd
  obtain ⟨u, e, rfl, hupc, hubd, husr⟩ := step_excepted hs hc
  obtain ⟨-, hepc, hcause, -, -, -, -, -, -, hvector, hnext, hslot, -⟩ := enter_enters u e
  rw [hubd, hbd] at hepc hcause
  rw [husr, hsr] at hvector
  refine ⟨hepc.trans ?_, hcause, hslot, hvector, hnext⟩
  rw [if_pos rfl, hupc, hpc, hnpc]
  exact BitVec.add_sub_cancel ..

end Sys2Proof.Machine

/-! PROOFS about the immediate ALU family: where ADDI and ADDIU part, and the bits of the logical operations on the
zero-extended immediate. -/

namespace Sys2Proof.Machine

/-! ### ADDI and ADDIU (rule R299) -/

/-- A signed sum of two words fits unless their sign bits agree and the wrapped sum has the other sign (rule R299). -/
theorem not_fitsSigned_sum_iff (a b : Word) :
    ¬ FitsSigned (a.toInt + b.toInt) ↔ a.msb = b.msb ∧ (a + b).msb ≠ a.msb := by
  have overflow : ¬ FitsSigned (a.toInt + b.toInt) ↔ BitVec.saddOverflow a b = true := by
    simp only [BitVec.saddOverflow, FitsSigned, Bool.or_eq_true, decide_eq_true_eq]
    omega
  rw [overflow, BitVec.saddOverflow_eq, Bool.and_eq_true, beq_iff_eq, Bool.not_eq_true', beq_eq_false_iff_ne]

/-- An exception entry records its code as the outcome of the step. -/
theorem Enters.lastStep {s t : State} {code : BitVec 5} {ce : Option (BitVec 2)} {bad : Option Word}
    (h : Enters s t code ce bad) : t.lastStep = some (.excepted code) := by
  obtain ⟨-, -, -, -, -, -, -, -, -, -, -, -, hlast, -⟩ := h
  exact hlast

/-- An instruction that writes a register and retires does not end with an exception. -/
theorem not_excepted_of_yields_writing {i : Instr} {s t : State} {rd : Reg} {v : Word} {c : BitVec 5}
    (h : Yields i s fun t => RetiresWriting s t rd v) (ht : exec i s = .next t) : t.lastStep ≠ some (.excepted c) := by
  obtain ⟨u, hu, ⟨-, -, -, hlast⟩, -⟩ := h
  cases hu.symm.trans ht
  rw [hlast]
  exact nofun

/-- ADDI ends with the exception Ov exactly where its exact sum does not fit (rule R291). -/
theorem addi_excepts_iff (rt rs : Reg) (imm : BitVec 16) (s : State) :
    (∃ t, exec (.addi rt rs imm) s = .next t ∧ t.lastStep = some (.excepted 12)) ↔
      ¬ FitsSigned ((s.x rs).toInt + imm.toInt) := by
  refine ⟨fun ⟨t, ht, hlast⟩ hfits => ?_, fun hfits => ?_⟩
  · exact not_excepted_of_yields_writing (yields_of_fits (exec_addi ..) hfits) ht hlast
  · obtain ⟨t, ht, henters⟩ := traps_of_not_fits (exec_addi ..) hfits
    exact ⟨t, ht, henters.lastStep⟩

/-- Where ADDI's exact sum fits, its word is ADDIU's wrapped sum (rules R291, R292). -/
theorem exec_addi_eq_addiu {rt rs : Reg} {imm : BitVec 16} {s : State}
    (h : FitsSigned ((s.x rs).toInt + imm.toInt)) : exec (.addi rt rs imm) s = exec (.addiu rt rs imm) s := by
  rw [exec_addi, fitSigned_of_fits h, BitVec.ofInt_add, BitVec.ofInt_toInt, ← sext16_eq_ofInt]
  rfl

/-- Settles O26: ADDI and ADDIU part exactly where the signed sum does not fit. -/
theorem addiAndAddiuAgree : Obligations.AddiAndAddiuAgree := by
  intro rt rs imm s simm overflows
  have hov : ¬ FitsSigned ((s.x rs).toInt + imm.toInt) ↔ overflows := by
    rw [← sext16_toInt imm]
    exact not_fitsSigned_sum_iff _ _
  exact ⟨hov.symm.trans (addi_excepts_iff ..).symm, fun h => exec_addi_eq_addiu (not_not.mp (hov.not.mpr h))⟩

/-! ### Logic on the immediate (rules R295 to R298) -/

theorem zext16_getLsbD (imm : BitVec 16) {k : Nat} (hk : k < 32) :
    (zext16 imm).getLsbD k = (decide (k < 16) && imm.getLsbD k) := by
  rw [zext16, BitVec.getLsbD_setWidth, decide_eq_true hk, Bool.true_and, Bool.eq_and_self, decide_eq_true_iff]
  exact BitVec.lt_of_getLsbD

/-- The upper immediate as a product (rule R298). -/
theorem upperImm_eq_ofNat (imm : BitVec 16) : upperImm imm = BitVec.ofNat 32 (imm.toNat * 65536) := by
  apply BitVec.eq_of_toNat_eq
  rw [upperImm, BitVec.toNat_append, BitVec.toNat_ofNat, BitVec.toNat_ofNat, Nat.zero_mod, Nat.or_zero, Nat.shiftLeft_eq]
  omega

/-- LUI ignores its `rs` field (rules R172, R298). -/
theorem decode_lui (rs rt : Reg) (imm : BitVec 16) : decode (iForm 0x0F#6 rs rt imm) = .ok (.lui rt imm) := by
  simp [decode]

/-- Settles O24: the bits of the bitwise operations, with those of the zero-extended immediate. -/
theorem logicOfImmediates : Obligations.LogicOfImmediates := by
  intro rt rs imm s
  refine ⟨decode_of_encode_eq (i := .andi rt rs imm) rfl rfl, ⟨_, yields_writing rfl, fun k hk => ?_⟩,
    decode_of_encode_eq (i := .ori rt rs imm) rfl rfl, ⟨_, yields_writing rfl, fun k hk => ?_⟩,
    decode_of_encode_eq (i := .xori rt rs imm) rfl rfl, ⟨_, yields_writing rfl, fun k hk => ?_⟩,
    decode_lui rs rt imm, yields_writing_eq rfl (upperImm_eq_ofNat imm)⟩
  · rw [BitVec.getLsbD_and, zext16_getLsbD imm hk]
  · rw [BitVec.getLsbD_or, zext16_getLsbD imm hk]
  · rw [BitVec.getLsbD_xor, zext16_getLsbD imm hk]

end Sys2Proof.Machine

/-! PROOFS about the memory access family: what the loads read and merge, what the stores write, and what they leave
unchanged (spec/43_load_store.md). -/

namespace Sys2Proof.Machine

/-! ### How an access ends an instruction (rules R310, R315, R322, R324) -/

@[simp] theorem State.ea_eq (s : State) (rs : Reg) (imm : BitVec 16) : s.ea rs imm = effectiveAddress s rs imm := rfl

/-- What a load answers whose bytes are all located. -/
theorem load_located {n : Nat} {f : Word → Word} {rt rs : Reg} {imm : BitVec 16} {s : State} {ls : List Loc}
    (ha : (effectiveAddress s rs imm).toNat % n = 0) (hp : ¬ Protected s (effectiveAddress s rs imm))
    (hi : ¬ Isolated s) (hl : Located s.cfg (effectiveAddress s rs imm) ls) (hn : ls.length = n) :
    load n f rt rs imm s = complete ((readBytes ls s).2.setXLate rt (f (littleEndian (readBytes ls s).1))) := by
  rw [load, State.ea_eq, memRead_located ha hp hi hl hn, afterAccess_done]

/-- An instruction that goes on after an access that raises takes that exception. -/
theorem traps_of_access {α : Type} {i : Instr} {s : State} {a : Access α} {go : α → State → Result} {e : Exc}
    (h : exec i s = afterAccess a s go) (ha : a = .raised e) : Traps i s e.code e.ce e.badVaddr :=
  traps_of_raise (h.trans (by rw [ha]; rfl))

/-- Each plain load is `load` with some extension and some destination. -/
theorem PlainLoad.exec_eq {i : Instr} {n : Nat} {rs : Reg} {imm : BitVec 16} (h : PlainLoad i n rs imm) (s : State) :
    ∃ f rt, exec i s = load n f rt rs imm s := by
  cases h <;> exact ⟨_, _, rfl⟩

/-- Each plain store is `store` of the visible `rt`. -/
theorem PlainStore.exec_eq {i : Instr} {n : Nat} {rt rs : Reg} {imm : BitVec 16} (h : PlainStore i n rt rs imm)
    (s : State) : exec i s = store n (s.x rt) rs imm s := by
  cases h <;> rfl

/-! ### Plain loads (rules R313, R314, R316 to R318) -/

theorem littleEndian_one (b : Byte) : littleEndian [b] = b.setWidth 32 := by
  simp [littleEndian]

theorem littleEndian_two (b0 b1 : Byte) : littleEndian [b0, b1] = (b1 ++ b0 : BitVec 16).setWidth 32 := by
  refine BitVec.eq_of_getLsbD_eq fun k hk => ?_
  simp only [littleEndian, BitVec.getLsbD_append, BitVec.getLsbD_or, BitVec.getLsbD_shiftLeft, BitVec.getLsbD_setWidth,
    BitVec.getLsbD_zero]
  grind

theorem sextByte_setWidth (b : Byte) : sextByte (b.setWidth 32) = b.signExtend 32 := by
  rw [sextByte, BitVec.setWidth_setWidth_of_le _ (by decide), BitVec.setWidth_eq]

theorem sextHalf_setWidth (h : BitVec 16) : sextHalf (h.setWidth 32) = h.signExtend 32 := by
  rw [sextHalf, BitVec.setWidth_setWidth_of_le _ (by decide), BitVec.setWidth_eq]

/-- `yields_loading`, with the word written given in another way. -/
theorem yields_loading_eq {i : Instr} {s u : State} {rt : Reg} {v w : Word} (h : exec i s = complete (u.setXLate rt v))
    (hv : v = w) : Yields i s (fun t => RetiresLoading u t rt w) :=
  hv ▸ yields_loading h

/-- Settles O38: the bytes read, extended, by `load_located`; the stops by what MemRead answers. -/
theorem loads : Obligations.Loads := by
  refine ⟨fun rt rs imm => ?_, ?_, ?_⟩
  · exact ⟨decode_of_encode_eq (i := .lb rt rs imm) rfl rfl, decode_of_encode_eq (i := .lh rt rs imm) rfl rfl,
      decode_of_encode_eq (i := .lw rt rs imm) rfl rfl, decode_of_encode_eq (i := .lbu rt rs imm) rfl rfl,
      decode_of_encode_eq (i := .lhu rt rs imm) rfl rfl⟩
  · intro rt rs imm s ea hp hi
    refine ⟨fun l0 hl => ⟨_, _, readBytes_readsBytes [l0] s, ?_, ?_⟩,
      fun l0 l1 ha hl => ⟨_, _, _, readBytes_readsBytes [l0, l1] s, ?_, ?_⟩,
      fun l0 l1 l2 l3 ha hl => ⟨_, _, _, _, _, readBytes_readsBytes [l0, l1, l2, l3] s, ?_⟩⟩
    · refine yields_loading_eq (load_located (Nat.mod_one _) hp hi hl rfl) ?_
      exact (congrArg sextByte (littleEndian_one _)).trans (sextByte_setWidth _)
    · exact yields_loading_eq (load_located (Nat.mod_one _) hp hi hl rfl) (littleEndian_one _)
    · refine yields_loading_eq (load_located ha hp hi hl rfl) ?_
      exact (congrArg sextHalf (littleEndian_two ..)).trans (sextHalf_setWidth _)
    · exact yields_loading_eq (load_located ha hp hi hl rfl) (littleEndian_two ..)
    · exact yields_loading_eq (load_located ha hp hi hl rfl) (littleEndian_four ..)
  · intro i n rs imm s h ea
    obtain ⟨f, rt, he⟩ := h.exec_eq s
    refine ⟨fun hb => traps_of_access he (memRead_bad hb), fun ha hp hi => ?_,
      fun ha hp hi hu => traps_of_access he (memRead_unmapped ha hp hi hu)⟩
    rw [he, load, State.ea_eq, memRead_isolated ha hp hi, afterAccess_refused]

/-! ### Plain stores (rules R320, R321, R323) -/

/-- A shift by whole bytes renumbers the bytes. -/
theorem byteOf_shiftRight_bytes (v : Word) (m j : Nat) : byteOf (v >>> (8 * m)) j = byteOf v (m + j) := by
  refine BitVec.eq_of_getLsbD_eq fun k hk => ?_
  simp only [byteOf, BitVec.getLsbD_extractLsb', BitVec.getLsbD_ushiftRight, hk, decide_true, Bool.true_and]
  congr 1
  omega

/-- The bytes of `v` are stored from the least significant up (rules R118, R126). -/
theorem writeBytes_storesBytes (ls : List Loc) (v : Word) (s : State) :
    StoresBytes s ls ((List.range ls.length).map (byteOf v)) (writeBytes ls v s) := by
  induction ls generalizing v s with
  | nil => exact ⟨rfl, rfl⟩
  | cons l ls ih =>
    refine ⟨byteOf v 0, (List.range ls.length).map (byteOf (v >>> 8)), _, ?_, writeByte_storesByte s l _, ?_⟩
    · rw [List.length_cons, List.range_succ_eq_map, List.map_cons, List.map_map]
      exact congrArg _ (List.map_congr_left fun j _ => (byteOf_shiftRight v j).symm)
    · rw [byteOf_zero]
      exact ih (v >>> 8) _

/-- How a store ends once its address has passed the checks: discarded, a bus error, or its bytes stored in order (rules
R126, R127, R129). -/
theorem storeChecked_outcomes {i : Instr} {addr v : Word} {n : Nat} {s : State}
    (he : exec i s = afterAccess (storeChecked addr n v s) s fun _ u => complete u) :
    (Isolated s → Yields i s (RetiresQuietly s)) ∧
    (¬ Isolated s → Unmapped s.cfg addr n → Traps i s 7 none none) ∧
    (¬ Isolated s → ∀ ls, ls.length = n → Located s.cfg addr ls →
      ∃ u, StoresBytes s ls ((List.range n).map (byteOf v)) u ∧ Yields i s (RetiresQuietly u)) := by
  refine ⟨fun hi => ?_, fun hi hu => traps_of_access he (storeChecked_unmapped hi hu), fun hi ls hn hl => ?_⟩
  · rw [storeChecked_isolated hi] at he
    exact yields_quietly he
  · rw [storeChecked_located hi hl hn] at he
    exact ⟨_, hn ▸ writeBytes_storesBytes ls v s, yields_quietly he⟩

/-- Settles O40: MemWrite's checks in their order, then `storeChecked_outcomes`. -/
theorem stores : Obligations.Stores := by
  refine ⟨fun rt rs imm => ?_, ?_⟩
  · exact ⟨decode_of_encode_eq (i := .sb rt rs imm) rfl rfl, decode_of_encode_eq (i := .sh rt rs imm) rfl rfl,
      decode_of_encode_eq (i := .sw rt rs imm) rfl rfl⟩
  · intro i n rt rs imm s h ea
    have he := h.exec_eq s
    refine ⟨fun hb => traps_of_access he (memWrite_bad hb), fun ha hp => storeChecked_outcomes ?_⟩
    rw [he, store, State.ea_eq, memWrite_good ha hp]

/-! ### The word and the place of a partial-word access (rules R315, R319) -/

theorem byteInWord_eq (a : Word) : byteInWord a = a.toNat % 4 := by
  rw [byteInWord, BitVec.extractLsb'_toNat, Nat.shiftRight_zero]

theorem alignedWord_eq (a : Word) : alignedWord a = a - BitVec.ofNat 32 (a.toNat % 4) := by
  have low : a &&& 3#32 = BitVec.ofNat 32 (a.toNat % 4) := by
    apply BitVec.eq_of_toNat_eq
    rw [BitVec.toNat_and, BitVec.toNat_ofNat, ← Nat.and_two_pow_sub_one_eq_mod a.toNat 2]
    exact (Nat.mod_eq_of_lt (Nat.and_lt_two_pow _ (by decide))).symm
  have split : a = alignedWord a + (a &&& 3#32) := by
    rw [alignedWord, BitVec.add_eq_or_of_and_eq_zero, ← BitVec.and_or_distrib_left]
    · exact BitVec.and_allOnes.symm
    · rw [BitVec.and_comm a 3#32, BitVec.and_assoc, ← BitVec.and_assoc _ 3#32]
      simp
  rw [← low]
  exact (BitVec.sub_eq_iff_eq_add.mpr split).symm

theorem alignedWord_toNat (a : Word) : (alignedWord a).toNat = a.toNat - a.toNat % 4 := by
  rw [alignedWord_eq]
  bv_omega

theorem alignedWord_aligned (a : Word) : (alignedWord a).toNat % 4 = 0 := by
  rw [alignedWord_toNat]
  omega

/-- A byte of the aligned word, by its distance from the address. -/
theorem alignedWord_add (a : Word) (j : Nat) :
    alignedWord a + BitVec.ofNat 32 (a.toNat % 4 + j) = a + BitVec.ofNat 32 j := by
  rw [alignedWord_eq, BitVec.ofNat_add, ← BitVec.add_assoc, BitVec.sub_add_cancel]

/-- An address and its aligned word are in the same half of the address space (rule R315). -/
theorem protected_alignedWord (s : State) (a : Word) : Protected s (alignedWord a) ↔ Protected s a := by
  simp [Protected, alignedWord]

/-! ### The merges, bit by bit (rules R315, R319) -/

theorem mergeLeft_getLsbD (old w : Word) {n k : Nat} (hn : n < 4) (hk : k < 32) :
    (mergeLeft old w n).getLsbD k = if k < 8 * (3 - n) then old.getLsbD k else w.getLsbD (k - 8 * (3 - n)) := by
  have mask : (0x00FFFFFF#32 >>> (8 * n)).getLsbD k = decide (k < 8 * (3 - n)) := by
    rw [BitVec.getLsbD_ushiftRight, show 0x00FFFFFF#32 = BitVec.ofNat 32 (2 ^ 24 - 1) from rfl, BitVec.getLsbD_ofNat,
      Nat.testBit_two_pow_sub_one]
    grind
  simp only [mergeLeft, BitVec.getLsbD_or, BitVec.getLsbD_and, BitVec.getLsbD_shiftLeft, mask]
  grind

theorem mergeRight_getLsbD (old w : Word) {n k : Nat} (hn : n < 4) (hk : k < 32) :
    (mergeRight old w n).getLsbD k = if k < 8 * (4 - n) then w.getLsbD (8 * n + k) else old.getLsbD k := by
  have mask : (0xFFFFFFFF#32 >>> (8 * n)).getLsbD k = decide (k < 8 * (4 - n)) := by
    rw [BitVec.getLsbD_ushiftRight, show 0xFFFFFFFF#32 = BitVec.allOnes 32 from rfl, BitVec.getLsbD_allOnes]
    grind
  simp only [mergeRight, BitVec.getLsbD_or, BitVec.getLsbD_and, BitVec.getLsbD_not, BitVec.getLsbD_ushiftRight, mask]
  grind

/-! ### Partial-word loads (rules R315, R319) -/

/-- The four results of LWL, on the bytes of the aligned word (rule R315). -/
theorem mergeLeft_littleEndian (old : Word) (b0 b1 b2 b3 : Byte) :
    mergeLeft old (littleEndian [b0, b1, b2, b3]) 0 = b0 ++ old.extractLsb' 0 24 ∧
    mergeLeft old (littleEndian [b0, b1, b2, b3]) 1 = b1 ++ b0 ++ old.extractLsb' 0 16 ∧
    mergeLeft old (littleEndian [b0, b1, b2, b3]) 2 = b2 ++ b1 ++ b0 ++ old.extractLsb' 0 8 ∧
    mergeLeft old (littleEndian [b0, b1, b2, b3]) 3 = b3 ++ b2 ++ b1 ++ b0 := by
  rw [littleEndian_four]
  refine ⟨?_, ?_, ?_, ?_⟩
  all_goals
    refine BitVec.eq_of_getLsbD_eq fun k hk => ?_
    rw [mergeLeft_getLsbD _ _ (by decide) hk]
    simp only [wordOfBytes, BitVec.getLsbD_append, BitVec.getLsbD_extractLsb']
    grind

/-- The four results of LWR, on the bytes of the aligned word (rule R319). -/
theorem mergeRight_littleEndian (old : Word) (b0 b1 b2 b3 : Byte) :
    mergeRight old (littleEndian [b0, b1, b2, b3]) 0 = b3 ++ b2 ++ b1 ++ b0 ∧
    mergeRight old (littleEndian [b0, b1, b2, b3]) 1 = old.extractLsb' 24 8 ++ b3 ++ b2 ++ b1 ∧
    mergeRight old (littleEndian [b0, b1, b2, b3]) 2 = old.extractLsb' 16 16 ++ b3 ++ b2 ∧
    mergeRight old (littleEndian [b0, b1, b2, b3]) 3 = old.extractLsb' 8 24 ++ b3 := by
  rw [littleEndian_four]
  refine ⟨?_, ?_, ?_, ?_⟩
  all_goals
    refine BitVec.eq_of_getLsbD_eq fun k hk => ?_
    rw [mergeRight_getLsbD _ _ (by decide) hk]
    simp only [wordOfBytes, BitVec.getLsbD_append, BitVec.getLsbD_extractLsb']
    grind

theorem loadPartial_protected {merge : Word → Word → Nat → Word} {rt rs : Reg} {imm : BitVec 16} {s : State}
    (hp : Protected s (effectiveAddress s rs imm)) :
    loadPartial merge rt rs imm s = raise (.adEL (effectiveAddress s rs imm)) s := by
  simp only [loadPartial, State.ea_eq, addressCheck_bad (.inr hp), addressError]

/-- Past the check on the unaligned address, the aligned word is read and merged at the place of that address. -/
theorem loadPartial_unprotected {merge : Word → Word → Nat → Word} {rt rs : Reg} {imm : BitVec 16} {s : State}
    (hp : ¬ Protected s (effectiveAddress s rs imm)) :
    loadPartial merge rt rs imm s =
      afterAccess (memRead (alignedWord (effectiveAddress s rs imm)) 4 s) s fun w u =>
        complete (u.setXLate rt (merge (s.x rt) w ((effectiveAddress s rs imm).toNat % 4))) := by
  simp only [loadPartial, State.ea_eq, addressCheck_good (Nat.mod_one _) hp, byteInWord_eq]

/-- A partial-word load whose aligned word is located writes its merge delayed. -/
theorem yields_loadPartial {i : Instr} {merge : Word → Word → Nat → Word} {rt rs : Reg} {imm : BitVec 16} {s : State}
    {ls : List Loc} (he : exec i s = loadPartial merge rt rs imm s) (hp : ¬ Protected s (effectiveAddress s rs imm))
    (hi : ¬ Isolated s) (hl : Located s.cfg (alignedWord (effectiveAddress s rs imm)) ls) (hn : ls.length = 4) :
    Yields i s fun t => ∀ n v, (effectiveAddress s rs imm).toNat % 4 = n →
      merge (s.x rt) (littleEndian (readBytes ls s).1) n = v → RetiresLoading (readBytes ls s).2 t rt v := by
  have hal := (protected_alignedWord s (effectiveAddress s rs imm)).not.mpr hp
  rw [loadPartial_unprotected hp, memRead_located (alignedWord_aligned _) hal hi hl hn, afterAccess_done] at he
  obtain ⟨t, ht, hr⟩ := yields_loading he
  exact ⟨t, ht, fun n v hn hv => hv ▸ hn ▸ hr⟩

/-- How a partial-word load stops: AdEL of the unaligned address, a refusal, or DBE, and never for its alignment. -/
theorem loadPartial_stops {i : Instr} {merge : Word → Word → Nat → Word} {rt rs : Reg} {imm : BitVec 16} {s : State}
    (he : exec i s = loadPartial merge rt rs imm s) :
    (Protected s (effectiveAddress s rs imm) → Traps i s 4 none (some (effectiveAddress s rs imm))) ∧
    (¬ Protected s (effectiveAddress s rs imm) → Isolated s → exec i s = .refused .isolatedCacheLoad) ∧
    (¬ Protected s (effectiveAddress s rs imm) → ¬ Isolated s →
      Unmapped s.cfg (alignedWord (effectiveAddress s rs imm)) 4 → Traps i s 7 none none) := by
  have ha := alignedWord_aligned (effectiveAddress s rs imm)
  have hal := (protected_alignedWord s (effectiveAddress s rs imm)).not
  refine ⟨fun hp => traps_of_raise (he.trans (loadPartial_protected hp)), fun hp hi => ?_, fun hp hi hu => ?_⟩
  all_goals rw [loadPartial_unprotected hp] at he
  · rw [he, memRead_isolated ha (hal.mpr hp) hi, afterAccess_refused]
  · exact traps_of_access he (memRead_unmapped ha (hal.mpr hp) hi hu)

/-- Settles O39: the aligned word's bytes, merged at each of the four places. -/
theorem partialLoads : Obligations.PartialLoads := by
  intro rt rs imm s ea al old
  have hal : alignedWord ea = al := alignedWord_eq ea
  obtain ⟨leftProtected, leftIsolated, leftUnmapped⟩ := loadPartial_stops (i := .lwl rt rs imm) (s := s) rfl
  obtain ⟨rightProtected, rightIsolated, rightUnmapped⟩ := loadPartial_stops (i := .lwr rt rs imm) (s := s) rfl
  refine ⟨decode_of_encode_eq (i := .lwl rt rs imm) rfl rfl, decode_of_encode_eq (i := .lwr rt rs imm) rfl rfl,
    fun hp => ⟨leftProtected hp, rightProtected hp⟩, fun hp hi => ⟨leftIsolated hp hi, rightIsolated hp hi⟩,
    fun hp hi => ⟨fun hu => ?_, fun l0 l1 l2 l3 hl => ?_⟩⟩
  · rw [← hal] at hu
    exact ⟨leftUnmapped hp hi hu, rightUnmapped hp hi hu⟩
  · rw [← hal] at hl
    obtain ⟨t, ht, left⟩ := yields_loadPartial (i := .lwl rt rs imm) rfl hp hi hl rfl
    obtain ⟨t', ht', right⟩ := yields_loadPartial (i := .lwr rt rs imm) rfl hp hi hl rfl
    have read := readBytes_readsBytes [l0, l1, l2, l3] s
    obtain ⟨b0, b1, b2, b3, hb⟩ : ∃ b0 b1 b2 b3, (readBytes [l0, l1, l2, l3] s).1 = [b0, b1, b2, b3] :=
      ⟨_, _, _, _, rfl⟩
    rw [hb] at read left right
    obtain ⟨left0, left1, left2, left3⟩ := mergeLeft_littleEndian old b0 b1 b2 b3
    obtain ⟨right0, right1, right2, right3⟩ := mergeRight_littleEndian old b0 b1 b2 b3
    exact ⟨b0, b1, b2, b3, _, read,
      ⟨t, ht, (left 0 _ · left0), (left 1 _ · left1), (left 2 _ · left2), (left 3 _ · left3)⟩,
      ⟨t', ht', (right 0 _ · right0), (right 1 _ · right1), (right 2 _ · right2), (right 3 _ · right3)⟩⟩

/-! ### Partial-word stores (rules R322, R324) -/

/-- SWL stores the high `n + 1` bytes of `rt` from the aligned word up, where `n` is the place of the address. -/
theorem exec_swl {rt rs : Reg} {imm : BitVec 16} {s : State} {ea : Word} (h : effectiveAddress s rs imm = ea) :
    exec (.swl rt rs imm) s =
      storePartial ea (alignedWord ea) (ea.toNat % 4 + 1) (s.x rt >>> (8 * (3 - ea.toNat % 4))) s := by
  rw [← byteInWord_eq, ← h]
  rfl

/-- SWR stores the low `4 - n` bytes of `rt` from the address up, where `n` is the place of the address. -/
theorem exec_swr {rt rs : Reg} {imm : BitVec 16} {s : State} {ea : Word} (h : effectiveAddress s rs imm = ea) :
    exec (.swr rt rs imm) s = storePartial ea ea (4 - ea.toNat % 4) (s.x rt) s := by
  rw [← byteInWord_eq, ← h]
  rfl

theorem storePartial_protected {ea addr v : Word} {n : Nat} {s : State} (hp : Protected s ea) :
    storePartial ea addr n v s = raise (.adES ea) s := by
  simp only [storePartial, addressCheck_bad (.inr hp), addressError]

theorem storePartial_unprotected {ea addr v : Word} {n : Nat} {s : State} (hp : ¬ Protected s ea) :
    storePartial ea addr n v s = afterAccess (storeChecked addr n v s) s fun _ u => complete u := by
  simp only [storePartial, addressCheck_good (Nat.mod_one _) hp]

/-- Settles O41: past the check on the unaligned address, `storeChecked_outcomes` of the bytes stored. -/
theorem partialStores : Obligations.PartialStores := by
  intro rt rs imm s ea n al v
  have hl : exec (.swl rt rs imm) s = storePartial ea al (n + 1) (v >>> (8 * (3 - n))) s := by
    rw [exec_swl rfl, alignedWord_eq]
  have hr : exec (.swr rt rs imm) s = storePartial ea ea (4 - n) v s := exec_swr rfl
  have bytes : byteOf (v >>> (8 * (3 - n))) = fun j => v.extractLsb' (8 * (3 - n + j)) 8 :=
    funext fun j => byteOf_shiftRight_bytes ..
  refine ⟨decode_of_encode_eq (i := .swl rt rs imm) rfl rfl, decode_of_encode_eq (i := .swr rt rs imm) rfl rfl,
    fun hp => ?_, fun hp hi => ?_, fun hp hi => ?_⟩
  · exact ⟨traps_of_raise (hl.trans (storePartial_protected hp)), traps_of_raise (hr.trans (storePartial_protected hp))⟩
  all_goals
    rw [storePartial_unprotected hp] at hl hr
    obtain ⟨leftIsolated, leftUnmapped, leftLocated⟩ := storeChecked_outcomes hl
    obtain ⟨rightIsolated, rightUnmapped, rightLocated⟩ := storeChecked_outcomes hr
  · exact ⟨leftIsolated hi, rightIsolated hi⟩
  · exact ⟨leftUnmapped hi, bytes ▸ leftLocated hi, rightUnmapped hi, rightLocated hi⟩

/-! ### The frame of memory (rules R320 to R324, R356) -/

/-- Whatever next state `r` answers has the storage of `s`. -/
def LeavesMem (s : State) (r : Result) : Prop := ∀ t, r = .next t → t.mem = s.mem

theorem raise_leavesMem (e : Exc) (s : State) : LeavesMem s (raise e s) := by
  rintro t ⟨⟩
  rfl

theorem complete_leavesMem {s u : State} (h : u.mem = s.mem) : LeavesMem s (complete u) := by
  rintro t ⟨⟩
  exact h

theorem completeBranch_leavesMem {s u : State} {g : Option Word} (h : u.mem = s.mem) :
    LeavesMem s (completeBranch g u) := by
  rintro t ⟨⟩
  exact h

theorem refused_leavesMem (r : Refusal) (s : State) : LeavesMem s (.refused r) := nofun

theorem whenUsable_leavesMem {z : BitVec 2} {s : State} {r : Result} (h : LeavesMem s r) :
    LeavesMem s (whenUsable z s r) := by
  unfold whenUsable
  split
  · exact h
  · exact raise_leavesMem _ s

theorem writeBackOrOverflow_leavesMem (rd : Reg) (r : Option Word) (s : State) :
    LeavesMem s (writeBackOrOverflow rd r s) := by
  cases r with
  | none => exact raise_leavesMem .ov s
  | some v => exact complete_leavesMem rfl

/-- What follows a read leaves storage alone where its effect does. -/
theorem memRead_leavesMem {a : Word} {n : Nat} {s : State} {go : Word → State → Result}
    (h : ∀ v u, u.mem = s.mem → LeavesMem s (go v u)) : LeavesMem s (afterAccess (memRead a n s) s go) := by
  intro t ht
  obtain ⟨e, -, rfl⟩ | ⟨v, u, ha, hg⟩ := afterAccess_next ht
  · rfl
  · obtain ⟨-, -, ls, -, -, rfl⟩ := memRead_done ha
    exact h v _ (by rw [readBytes_frame]) t hg

theorem loadPartial_leavesMem {merge : Word → Word → Nat → Word} {rt rs : Reg} {imm : BitVec 16} {s : State} :
    LeavesMem s (loadPartial merge rt rs imm s) := by
  by_cases hp : Protected s (effectiveAddress s rs imm)
  · rw [loadPartial_protected hp]
    exact raise_leavesMem _ s
  · rw [loadPartial_unprotected hp]
    exact memRead_leavesMem fun _ _ hu => complete_leavesMem hu

theorem execMfc0_leavesMem (rt rd : Reg) (s : State) : LeavesMem s (execMfc0 rt rd s) := by
  refine whenUsable_leavesMem (complete_leavesMem ?_)
  rw [State.setXLate_mem]
  rcases cop0Read_state rd s with he | he <;> rw [he]
  rfl

theorem execMtc0_leavesMem (rt rd : Reg) (s : State) : LeavesMem s (execMtc0 rt rd s) := by
  refine whenUsable_leavesMem ?_
  split
  · exact refused_leavesMem _ s
  · exact complete_leavesMem rfl

/-- EVERY INSTRUCTION THAT IS NO STORE leaves storage as it was. -/
theorem exec_leavesMem {i : Instr} (h : ¬ StoreInstr i) (s : State) : LeavesMem s (exec i s) := by
  cases i with
  | sb | sh | sw | swl | swr | swc2 => exact absurd (by constructor) h
  | sll | srl | sra | sllv | srlv | srav | mfhi | mthi | mflo | mtlo | mult | multu | div | divu | addu | subu | and
  | or | xor | nor | slt | sltu | addiu | slti | sltiu | andi | ori | xori | lui => exact complete_leavesMem rfl
  | add | sub | addi => exact writeBackOrOverflow_leavesMem _ _ s
  | jr | jalr | j | jal | bltz | bgez | bltzal | bgezal | beq | bne | blez | bgtz => exact completeBranch_leavesMem rfl
  | syscall | brk => exact raise_leavesMem _ s
  | lb | lh | lw | lbu | lhu => exact memRead_leavesMem fun _ _ hu => complete_leavesMem hu
  | lwl | lwr => exact loadPartial_leavesMem
  | mfc0 rt rd => exact execMfc0_leavesMem rt rd s
  | mtc0 rt rd => exact execMtc0_leavesMem rt rd s
  | rfe | mfc2 | cfc2 | mtc2 | ctc2 => exact whenUsable_leavesMem (complete_leavesMem rfl)
  | lwc2 => exact whenUsable_leavesMem (memRead_leavesMem fun _ _ hu => complete_leavesMem hu)
  | cfc0 | ctc0 | bc0f | bc0t | cop0 | lwc0 | swc0 | bc2f | bc2t | cop2 | cop1 | lwc1 | swc1 | cop3 | lwc3 | swc3 =>
    exact whenUsable_leavesMem (refused_leavesMem _ s)

/-- A checked store leaves every byte alone but those at the translations of its addresses. -/
theorem storeChecked_memKeptBut {addr v : Word} {n : Nat} {s t : State}
    (h : afterAccess (storeChecked addr n v s) s (fun _ u => complete u) = .next t) :
    MemKeptBut s t (StoredAt s addr n) := by
  intro a ha
  obtain ⟨e, -, rfl⟩ | ⟨_, u, hs, ⟨⟩⟩ := afterAccess_next h
  · rfl
  · obtain ⟨-, rfl⟩ | ⟨ls, ht, rfl⟩ := storeChecked_done hs
    · rfl
    · refine writeBytes_byte_other v fun l hl _ hal => ha ?_
      obtain ⟨j, hj, hjl⟩ := translateAll_get ht l hl
      exact ⟨j, hj, l, hjl, hal⟩

theorem store_memKeptBut {n : Nat} {v : Word} {rs : Reg} {imm : BitVec 16} {s t : State}
    (h : store n v rs imm s = .next t) : MemKeptBut s t (StoredAt s (effectiveAddress s rs imm) n) := by
  by_cases hb : (effectiveAddress s rs imm).toNat % n ≠ 0 ∨ Protected s (effectiveAddress s rs imm)
  · rw [store, State.ea_eq, memWrite_bad hb] at h
    cases h
    exact fun _ _ => rfl
  · obtain ⟨ha, hp⟩ := not_or.mp hb
    rw [store, State.ea_eq, memWrite_good (not_not.mp ha) hp] at h
    exact storeChecked_memKeptBut h

theorem storePartial_memKeptBut {ea addr v : Word} {n : Nat} {s t : State} (h : storePartial ea addr n v s = .next t) :
    MemKeptBut s t (StoredAt s addr n) := by
  by_cases hp : Protected s ea
  · rw [storePartial_protected hp] at h
    cases h
    exact fun _ _ => rfl
  · rw [storePartial_unprotected hp] at h
    exact storeChecked_memKeptBut h

/-- SWC2 keeps what SW of the same word keeps (rule R356). -/
theorem execSwc2_memKeptBut {rt rs : Reg} {imm : BitVec 16} {s t : State} (h : execSwc2 rt rs imm s = .next t) :
    MemKeptBut s t (StoredAt s (effectiveAddress s rs imm) 4) := by
  obtain ⟨-, rfl⟩ | ⟨-, hs⟩ := whenUsable_next h
  · exact fun _ _ => rfl
  · exact store_memKeptBut hs

/-- Settles O45: `exec_leavesMem`, and the frames of the two kinds of stores. -/
theorem memoryFrame : Obligations.MemoryFrame := by
  refine ⟨fun i s t h hi a _ => by rw [exec_leavesMem hi s t h], ?_⟩
  intro rt rs imm s t ea n
  refine ⟨store_memKeptBut, store_memKeptBut, store_memKeptBut, execSwc2_memKeptBut, fun h => ?_, fun h => ?_⟩
  · rw [exec_swl rfl] at h
    exact alignedWord_eq ea ▸ storePartial_memKeptBut h
  · rw [exec_swr rfl] at h
    exact storePartial_memKeptBut h

/-! ### An unaligned store by a pair (rule R325) -/

/-- Translation keeps the low bits: the segments' bases are multiples of 2^29 (rules R101, R103). -/
theorem busAddress_mod (a : Word) : busAddress a % 2 ^ 29 = a.toNat % 2 ^ 29 := by
  unfold busAddress
  split_ifs <;> omega

/-- The bytes of one access have bus addresses of their own. -/
theorem busAddress_add_injective (a : Word) {i j : Nat} (hi : i < 4) (hj : j < 4)
    (h : busAddress (a + BitVec.ofNat 32 i) = busAddress (a + BitVec.ofNat 32 j)) : i = j := by
  have low : ∀ k, busAddress (a + BitVec.ofNat 32 k) % 2 ^ 29 = (a.toNat + k) % 2 ^ 29 := fun k => by
    rw [busAddress_mod, BitVec.toNat_add, BitVec.toNat_ofNat]
    omega
  have := (low i).symm.trans (h ▸ low j)
  omega

/-- Byte `j` of a translated access is at the translation of its address. -/
theorem translateAll_getElem? {c : Config} {a : Word} {n : Nat} {ls : List Loc} (h : translateAll c a n = some ls)
    {j : Nat} (hj : j < n) : ls[j]? = translate c (a + BitVec.ofNat 32 j) := by
  induction n generalizing a ls j with
  | zero => omega
  | succ n ih =>
    obtain ⟨l, rest, hl, hr, rfl⟩ := (translateAll_succ ..).mp h
    cases j with
    | zero => rw [BitVec.add_zero, hl, List.getElem?_cons_zero]
    | succ j => rw [List.getElem?_cons_succ, ih hr (by omega), add_ofNat_succ]

/-- Where every byte of an access has a region with a property, the access is translated to bytes with it. -/
theorem translateAll_of_forall {c : Config} {a : Word} {n : Nat} {P : Loc → Prop}
    (h : ∀ j, j < n → ∃ l, translate c (a + BitVec.ofNat 32 j) = some l ∧ P l) :
    ∃ ls, translateAll c a n = some ls ∧ ls.length = n ∧ ∀ l ∈ ls, P l := by
  obtain ⟨ls, ht⟩ : ∃ ls, translateAll c a n = some ls := translateAll_some fun j hj => by
    obtain ⟨l, hl, -⟩ := h j hj
    rw [hl, Option.isSome_some]
  refine ⟨ls, ht, by simpa using congrArg List.length (storageAddresses_of_translateAll ht), fun l hm => ?_⟩
  obtain ⟨j, hj, hjl⟩ := translateAll_get ht l hm
  obtain ⟨l', hl', hP⟩ := h j hj
  rwa [Option.some.inj (hjl.symm.trans hl')]

theorem storeChecked_translated {a v : Word} {n : Nat} {s : State} {ls : List Loc} (hi : ¬ Isolated s)
    (ht : translateAll s.cfg a n = some ls) : storeChecked a n v s = .done () (writeBytes ls v s) :=
  (if_neg hi).trans (by rw [ht])

/-- The storage addresses of bytes `p` to `q - 1` of the access at `a`. -/
def PartAt (c : Config) (a : Word) (p q x : Nat) : Prop :=
  ∃ j, p ≤ j ∧ j < q ∧ ∃ l, translate c (a + BitVec.ofNat 32 j) = some l ∧ x = storageAddress c l

/-- `t` is `s` after an instruction that stored bytes `p` to `q - 1` of `v` at their places in the access at `a`, and
retired. -/
structure StoresPart (s t : State) (a : Word) (p q : Nat) (v : Word) : Prop where
  holds : ∀ j, p ≤ j → j < q → ∀ l, translate s.cfg (a + BitVec.ofNat 32 j) = some l → t.byteAt l = byteOf v j
  kept : MemKeptBut s t (PartAt s.cfg a p q)
  cfg : t.cfg = s.cfg
  cop0 : t.cop0 = s.cop0
  regs : t.regs = s.regs.tick

theorem storePartial_storesPart {ea a v : Word} {p q : Nat} {s t : State} (hq : q ≤ 4) (hp : ¬ Protected s ea)
    (hi : ¬ Isolated s) (hw : ∀ j, j < 4 → ∃ l, translate s.cfg (a + BitVec.ofNat 32 j) = some l ∧ l.writable)
    (h : storePartial ea (a + BitVec.ofNat 32 p) (q - p) (v >>> (8 * p)) s = .next t) : StoresPart s t a p q v := by
  have place : ∀ j, a + BitVec.ofNat 32 p + BitVec.ofNat 32 j = a + BitVec.ofNat 32 (p + j) := fun j => by
    rw [BitVec.add_assoc, ← BitVec.ofNat_add]
  obtain ⟨ls, ht, hlen, hlw⟩ := translateAll_of_forall (n := q - p) (a := a + BitVec.ofNat 32 p) (P := Loc.writable)
    fun j hj => place j ▸ hw (p + j) (by omega)
  have stored : storePartial ea (a + BitVec.ofNat 32 p) (q - p) (v >>> (8 * p)) s =
      complete (writeBytes ls (v >>> (8 * p)) s) := by
    rw [storePartial_unprotected hp, storeChecked_translated hi ht, afterAccess_done]
  obtain rfl := Host.Outcome.next.inj (h.symm.trans stored)
  have distinct : (ls.map (storageAddress s.cfg)).Nodup := by
    rw [storageAddresses_of_translateAll ht]
    refine List.Nodup.map_on (fun i hi j hj => ?_) List.nodup_range
    have hi := List.mem_range.mp hi
    have hj := List.mem_range.mp hj
    exact busAddress_add_injective _ (by omega) (by omega)
  refine ⟨fun j hpj hjq l hl => ?_, fun x hx => storePartial_memKeptBut h x ?_, writeBytes_cfg .., ?_, ?_⟩
  · have hjl : ls[j - p]? = some l := by
      rw [translateAll_getElem? ht (by omega), place, Nat.add_sub_cancel' hpj, hl]
    have hb : (ls.map (writeBytes ls (v >>> (8 * p)) s).byteAt)[j - p]? =
        ((List.range ls.length).map (byteOf (v >>> (8 * p))))[j - p]? :=
      congrArg (·[j - p]?) (writeBytes_byteAt _ hlw distinct)
    rw [List.getElem?_map, List.getElem?_map, hjl, List.getElem?_range (by omega), Option.map_some, Option.map_some,
      byteOf_shiftRight_bytes, Nat.add_sub_cancel' hpj] at hb
    exact Option.some.inj hb
  · rintro ⟨j, hj, l, hl, rfl⟩
    exact hx ⟨p + j, by omega, by omega, l, place j ▸ hl, rfl⟩
  all_goals
    rw [writeBytes_frame]
    rfl

/-- Two stores of parts of `v` that cover the four bytes store them all, whichever comes first: the second stores its
part, and leaves alone what only the first stored. -/
theorem StoresPart.covers {s m t : State} {a v : Word} {p q p' q' : Nat} (h : StoresPart s m a p q v)
    (h' : StoresPart m t a p' q' v) (hq : q ≤ 4) (hq' : q' ≤ 4)
    (hcover : ∀ j, j < 4 → p ≤ j ∧ j < q ∨ p' ≤ j ∧ j < q') :
    (∀ j, j < 4 → ∀ l, translate s.cfg (a + BitVec.ofNat 32 j) = some l → t.byteAt l = byteOf v j) ∧
      MemKeptBut s t (StoredAt s a 4) := by
  obtain ⟨holds', kept', cfg', -, -⟩ := h'
  rw [h.cfg] at holds' kept' cfg'
  refine ⟨fun j hj l hl => ?_, fun x hx => ?_⟩
  · by_cases hj' : p' ≤ j ∧ j < q'
    · exact holds' j hj'.1 hj'.2 l hl
    · obtain ⟨hpj, hjq⟩ := (hcover j hj).resolve_right hj'
      have first := h.holds j hpj hjq l hl
      rw [State.byteAt, h.cfg] at first
      rw [State.byteAt, cfg', ← first]
      refine kept' _ fun ⟨i, hpi, hiq, l', hl', he⟩ => hj' ?_
      rw [(storageAddress_of_translate hl).2, (storageAddress_of_translate hl').2] at he
      exact busAddress_add_injective a hj (by omega) he ▸ ⟨hpi, hiq⟩
  · have out : ∀ {p q}, q ≤ 4 → ¬ PartAt s.cfg a p q x := fun hq ⟨j, _, hjq, hl⟩ => hx ⟨j, by omega, hl⟩
    exact (kept' x (out hq')).trans (h.kept x (out hq))

/-- A register with nothing pending still shows its word after an instruction that wrote no register. -/
theorem Settled.x_tick {s t : State} {r : Reg} (h : Settled s r) (ht : t.regs = s.regs.tick) : t.x r = s.x r := by
  simp only [State.x, RegFile.get, ht, RegFile.tick_stage3, h.1]

/-- The state between the two stores of a pair offers the second one what the first one found. -/
theorem StoresPart.same_access {s m : State} {a v : Word} {p q : Nat} (h : StoresPart s m a p q v) {rs : Reg}
    (hrs : Settled s rs) (imm : BitVec 16) :
    effectiveAddress m rs imm = effectiveAddress s rs imm ∧ (∀ b, Protected m b ↔ Protected s b) ∧
      (Isolated m ↔ Isolated s) := by
  simp only [effectiveAddress, hrs.x_tick h.regs, Protected, Isolated, h.cop0, implies_true, and_self]

/-- SWR stores the low part of its register. -/
theorem swr_storesPart {rt rs : Reg} {imm : BitVec 16} {s t : State} {a v : Word} (ha : effectiveAddress s rs imm = a)
    (hv : s.x rt = v) (hp : ¬ Protected s a) (hi : ¬ Isolated s)
    (hw : ∀ j, j < 4 → ∃ l, translate s.cfg (a + BitVec.ofNat 32 j) = some l ∧ l.writable)
    (h : exec (.swr rt rs imm) s = .next t) : StoresPart s t a 0 (4 - a.toNat % 4) v := by
  rw [exec_swr ha, hv] at h
  exact storePartial_storesPart (by omega) hp hi hw (by simpa using h)

/-- The aligned word of the address three bytes on from an unaligned one. -/
theorem alignedWord_add_three {a : Word} (ha : a.toNat % 4 ≠ 0) :
    alignedWord (a + 3) = a + BitVec.ofNat 32 (4 - a.toNat % 4) ∧ (a + 3).toNat % 4 = a.toNat % 4 - 1 := by
  have place : (a + 3).toNat % 4 = a.toNat % 4 - 1 := by
    rw [BitVec.toNat_add, show (3 : Word).toNat = 3 from rfl]
    omega
  have three : (3 : Word) = BitVec.ofNat 32 (4 - a.toNat % 4) + BitVec.ofNat 32 (a.toNat % 4 - 1) := by
    rw [← BitVec.ofNat_add, show 4 - a.toNat % 4 + (a.toNat % 4 - 1) = 3 by omega]
    rfl
  refine ⟨?_, place⟩
  rw [alignedWord_eq, place]
  nth_rw 1 [three]
  rw [← BitVec.add_assoc, BitVec.add_sub_cancel]

/-- SWL three bytes on stores the rest of it. -/
theorem swl_storesPart {rt rs : Reg} {imm : BitVec 16} {s t : State} {a v : Word}
    (ha : effectiveAddress s rs imm = a + 3) (hn : a.toNat % 4 ≠ 0)
    (hv : s.x rt = v) (hp : ¬ Protected s (a + 3)) (hi : ¬ Isolated s)
    (hw : ∀ j, j < 4 → ∃ l, translate s.cfg (a + BitVec.ofNat 32 j) = some l ∧ l.writable)
    (h : exec (.swl rt rs imm) s = .next t) : StoresPart s t a (4 - a.toNat % 4) 4 v := by
  obtain ⟨aligned, place⟩ := alignedWord_add_three hn
  rw [exec_swl ha, hv, aligned, place, show 3 - (a.toNat % 4 - 1) = 4 - a.toNat % 4 by omega,
    show a.toNat % 4 - 1 + 1 = 4 - (4 - a.toNat % 4) by omega] at h
  exact storePartial_storesPart (by omega) hp hi hw h

/-- Settles O42: SWR stores the low part and SWL the rest, and in either order the parts cover the four bytes. -/
theorem unalignedStoreByAPair : Obligations.UnalignedStoreByAPair := by
  intro rt rs imm imm' s m t ea hn hea hrs hrt hp hp' hi hw h
  rcases h with ⟨hr, hl⟩ | ⟨hl, hr⟩
  · have low : StoresPart s m ea _ _ _ := swr_storesPart rfl rfl hp hi hw hr
    obtain ⟨hea', hprot, hiso⟩ := low.same_access hrs imm'
    have high := swl_storesPart (hea'.trans hea) hn (hrt.x_tick low.regs) ((hprot _).not.mpr hp') (hiso.not.mpr hi)
      (low.cfg ▸ hw) hl
    exact low.covers high (by omega) le_rfl (by omega)
  · have high := swl_storesPart hea hn rfl hp' hi hw hl
    obtain ⟨hea', hprot, hiso⟩ := high.same_access hrs imm
    have low : StoresPart m t ea _ _ _ := swr_storesPart hea' (hrt.x_tick high.regs) ((hprot _).not.mpr hp)
      (hiso.not.mpr hi) (high.cfg ▸ hw) hr
    exact high.covers low le_rfl (by omega) (by omega)

/-! ### An unaligned load by a pair (rule R326) -/

/-- Byte `j` of an assembled word is the byte read `j`-th (rule R118). -/
theorem byteOf_littleEndian {bs : List Byte} {b : Byte} {j : Nat} (hj : j < 4) (h : bs[j]? = some b) :
    byteOf (littleEndian bs) j = b := by
  induction bs generalizing j with
  | nil => simp at h
  | cons c bs ih =>
    cases j with
    | zero =>
      obtain rfl : c = b := by simpa using h
      refine BitVec.eq_of_getLsbD_eq fun k hk => ?_
      simp only [byteOf, littleEndian, BitVec.getLsbD_extractLsb', BitVec.getLsbD_or, BitVec.getLsbD_shiftLeft,
        BitVec.getLsbD_setWidth]
      grind
    | succ j =>
      rw [← ih (j := j) (by omega) (by simpa using h)]
      refine BitVec.eq_of_getLsbD_eq fun k hk => ?_
      simp only [byteOf, littleEndian, BitVec.getLsbD_extractLsb', BitVec.getLsbD_or, BitVec.getLsbD_shiftLeft,
        BitVec.getLsbD_setWidth]
      grind

theorem byteOf_mergeLeft (old w : Word) {n j : Nat} (hn : n < 4) (hj : j < 4) :
    byteOf (mergeLeft old w n) j = if j < 3 - n then byteOf old j else byteOf w (j - (3 - n)) := by
  refine BitVec.eq_of_getLsbD_eq fun k hk => ?_
  rw [byteOf, BitVec.getLsbD_extractLsb', mergeLeft_getLsbD old w hn (by omega)]
  split_ifs <;> simp only [byteOf, BitVec.getLsbD_extractLsb'] <;> grind

theorem byteOf_mergeRight (old w : Word) {n j : Nat} (hn : n < 4) (hj : j < 4) :
    byteOf (mergeRight old w n) j = if j < 4 - n then byteOf w (n + j) else byteOf old j := by
  refine BitVec.eq_of_getLsbD_eq fun k hk => ?_
  rw [byteOf, BitVec.getLsbD_extractLsb', mergeRight_getLsbD old w hn (by omega)]
  split_ifs <;> simp only [byteOf, BitVec.getLsbD_extractLsb'] <;> grind

/-- LWL three bytes on from LWR puts the bytes of the two words in their order (rule R326). -/
theorem byteOf_mergeLeft_mergeRight (old w0 w1 : Word) {n j : Nat} (hn : n < 4) (hn0 : n ≠ 0) (hj : j < 4) :
    byteOf (mergeLeft (mergeRight old w0 n) w1 (n - 1)) j =
      if j < 4 - n then byteOf w0 (n + j) else byteOf w1 (j - (4 - n)) := by
  rw [byteOf_mergeLeft _ _ (by omega) hj, byteOf_mergeRight _ _ hn hj, show 3 - (n - 1) = 4 - n by omega]
  split_ifs <;> rfl

/-- LWL's bytes do not depend on the register it merges into, and the others are that register's (rule R315). -/
theorem mergeLeft_getLsbD_of_other (old other w : Word) {n k : Nat} (hn : n < 4) (hk : k < 32) :
    (mergeLeft old w n).getLsbD k = if 8 * (3 - n) ≤ k then (mergeLeft other w n).getLsbD k else old.getLsbD k := by
  rw [mergeLeft_getLsbD old w hn hk, mergeLeft_getLsbD other w hn hk]
  by_cases h : k < 8 * (3 - n)
  · rw [if_pos h, if_neg (by omega)]
  · rw [if_neg h, if_pos (by omega), if_neg h]

theorem memRead_translated {a : Word} {n : Nat} {s : State} {ls : List Loc} (ha : a.toNat % n = 0)
    (hp : ¬ Protected s a) (hi : ¬ Isolated s) (ht : translateAll s.cfg a n = some ls) :
    memRead a n s = .done (littleEndian (readBytes ls s).1) (readBytes ls s).2 := by
  unfold memRead
  rw [addressCheck_good ha hp]
  exact (if_neg hi).trans (by rw [ht])

/-- The state after a load into `rt`. -/
def State.afterLoad (s : State) (rt : Reg) (v : Word) : State := (s.setXLate rt v).retire false none

/-- In the instruction after a load every settled register shows its old word, the loaded one too (rule R48). -/
theorem Settled.x_afterLoad {s : State} {r : Reg} (h : Settled s r) (rt : Reg) (v : Word) :
    (s.afterLoad rt v).x r = s.x r := by
  simp only [State.x, RegFile.get, State.afterLoad, State.retire_regs, State.setXLate_regs, RegFile.tick_stage3,
    RegFile.setLate_stage2, h.1]

theorem State.afterLoad_pending (s : State) {rt : Reg} (h : rt ≠ 0) (v : Word) :
    (s.afterLoad rt v).regs.stage2[rt.toNat] = v :=
  (RegFile.setLate_stage1 ..).trans (if_pos ⟨rfl, h⟩)

/-- One instruction later the loaded register shows the word loaded. -/
theorem State.afterLoad_retire_x (s : State) {rt : Reg} (h : rt ≠ 0) (v : Word) :
    ((s.afterLoad rt v).retire false none).x rt = v :=
  (RegFile.tick_get _ h).trans (s.afterLoad_pending h v)

/-- One instruction later every other settled register still shows its word. -/
theorem Settled.x_afterLoad_retire {s : State} {r rt : Reg} (h : Settled s r) (hr : r ≠ rt) (v : Word) :
    ((s.afterLoad rt v).retire false none).x r = s.x r := by
  have pending : (s.afterLoad rt v).regs.stage2[r.toNat] = s.regs.stage3[r.toNat] :=
    (RegFile.setLate_stage1 ..).trans <| (if_neg fun hr' => hr hr'.1).trans h.2
  simp only [State.x, RegFile.get, State.retire_regs, RegFile.tick_stage3, pending]

/-- A partial-word load at `a` merges the word `w`, from every state with the storage, the table and the COP0 registers
of `s`. -/
def MergesAt (s : State) (a w : Word) : Prop :=
  ∀ (u : State) (merge : Word → Word → Nat → Word) (rt rs : Reg) (imm : BitVec 16),
    effectiveAddress u rs imm = a → u.mem = s.mem → u.cfg = s.cfg → u.cop0 = s.cop0 →
    loadPartial merge rt rs imm u = .next (u.afterLoad rt (merge (u.x rt) w (a.toNat % 4)))

/-- Where the aligned word is in storage, its bytes are the ones merged. -/
theorem mergesAt_of_storage {s : State} {a : Word} (hp : ¬ Protected s a) (hi : ¬ Isolated s)
    (h : ∀ j, j < 4 → ∃ l, translate s.cfg (alignedWord a + BitVec.ofNat 32 j) = some l ∧ l.inStorage) :
    ∃ w, MergesAt s a w ∧
      ∀ j, j < 4 → ∀ l, translate s.cfg (alignedWord a + BitVec.ofNat 32 j) = some l → s.byteAt l = byteOf w j := by
  obtain ⟨ls, ht, -, hs⟩ := translateAll_of_forall h
  refine ⟨littleEndian (ls.map s.byteAt), fun u merge rt rs imm ha hm hc h0 => ?_, fun j hj l hl => ?_⟩
  · have hp' : ¬ Protected u a := by rwa [Protected, h0]
    have hal := (protected_alignedWord u a).not.mpr hp'
    have hi' : ¬ Isolated u := by rwa [Isolated, h0]
    have hb : u.byteAt = s.byteAt := funext fun l => by rw [State.byteAt, hm, hc, State.byteAt]
    rw [loadPartial_unprotected (ha ▸ hp'), ha, memRead_translated (alignedWord_aligned a) hal hi' (hc ▸ ht),
      readBytes_storage hs, hb]
    rfl
  · refine (byteOf_littleEndian hj ?_).symm
    rw [List.getElem?_map, translateAll_getElem? ht hj, hl, Option.map_some]

/-- Right after a load, LWL merges into the register's old word (rules R48, R326). -/
theorem MergesAt.lwl_back_to_back {s : State} {a w : Word} (h : MergesAt s a w) {rt rs : Reg} {imm : BitVec 16}
    (ha : effectiveAddress s rs imm = a) (hrs : Settled s rs) (hrt : Settled s rt) (v : Word) :
    exec (.lwl rt rs imm) (s.afterLoad rt v) =
      .next ((s.afterLoad rt v).afterLoad rt (mergeLeft (s.x rt) w (a.toNat % 4))) := by
  have ha' : effectiveAddress (s.afterLoad rt v) rs imm = a := by
    rw [effectiveAddress, hrs.x_afterLoad]
    exact ha
  rw [← hrt.x_afterLoad rt v]
  exact h _ mergeLeft rt rs imm ha' rfl rfl rfl

/-- One instruction later, LWL merges into the word loaded (rules R49, R326). -/
theorem MergesAt.lwl_apart {s : State} {a w : Word} (h : MergesAt s a w) {rt rs : Reg} {imm : BitVec 16}
    (ha : effectiveAddress s rs imm = a) (hrs : Settled s rs) (hne : rt ≠ rs) (h0 : rt ≠ 0) (v : Word) :
    exec (.lwl rt rs imm) ((s.afterLoad rt v).retire false none) =
      .next (((s.afterLoad rt v).retire false none).afterLoad rt (mergeLeft v w (a.toNat % 4))) := by
  have ha' : effectiveAddress ((s.afterLoad rt v).retire false none) rs imm = a := by
    rw [effectiveAddress, hrs.x_afterLoad_retire hne.symm]
    exact ha
  have applied := h _ mergeLeft rt rs imm ha' rfl rfl rfl
  rwa [s.afterLoad_retire_x h0] at applied

/-- Settles O43: LWL sees LWR's merge only with an instruction between them, and the two merges together put the bytes
of the two aligned words in order. -/
theorem unalignedLoadByAPair : Obligations.UnalignedLoadByAPair := by
  intro rt rs imm imm' s ea hrt hrs hn hea hsrs hsrt hp hp' hi hl
  obtain ⟨aligned, place⟩ := alignedWord_add_three hn
  have hn4 : ea.toNat % 4 < 4 := Nat.mod_lt _ (by decide)
  have highPlace (j : Nat) :
      alignedWord (ea + 3) + BitVec.ofNat 32 j = ea + BitVec.ofNat 32 (4 - ea.toNat % 4 + j) := by
    rw [aligned, BitVec.add_assoc, ← BitVec.ofNat_add]
  obtain ⟨w0, loadLow, low⟩ := mergesAt_of_storage hp hi fun j hj => alignedWord_eq ea ▸ hl j (by omega)
  obtain ⟨w1, loadHigh, high⟩ := mergesAt_of_storage hp' hi fun j hj => by
    rw [highPlace, ← alignedWord_add, alignedWord_eq]
    exact hl _ (by omega)
  have apart := loadHigh.lwl_apart hea hsrs hrs hrt (mergeRight (s.x rt) w0 (ea.toNat % 4))
  have backToBack := loadHigh.lwl_back_to_back hea hsrs hsrt (mergeRight (s.x rt) w0 (ea.toNat % 4))
  rw [place] at apart backToBack
  have word := wordOfBytes_byteOf (mergeLeft (mergeRight (s.x rt) w0 (ea.toNat % 4)) w1 (ea.toNat % 4 - 1))
  unfold wordOfBytes at word
  refine ⟨_, _, _, _, _, _, _, _, loadLow s mergeRight rt rs imm rfl rfl rfl rfl, rfl, apart, ?_,
    (State.afterLoad_pending _ hrt _).trans word.symm, backToBack, ?_⟩
  · intro j hj l hjl
    rw [word]
    refine Eq.trans ?_ (byteOf_mergeLeft_mergeRight _ w0 w1 hn4 hn hj).symm
    split_ifs with hlow
    · exact low _ (by omega) l (by rwa [alignedWord_add])
    · exact high _ (by omega) l (by rwa [highPlace, Nat.add_sub_cancel' (by omega)])
  · intro k hk
    rw [word, State.afterLoad_pending _ hrt, show 4 - ea.toNat % 4 = 3 - (ea.toNat % 4 - 1) by omega]
    exact mergeLeft_getLsbD_of_other _ _ w1 (by omega) hk

end Sys2Proof.Machine

/-! PROOFS about the coprocessor family: usability, the moves to and from the coprocessors, the return from an exception,
LWC2 and SWC2, and what is refused (spec/44_coprocessor.md). -/

namespace Sys2Proof.Machine

/-! ### How the words decode (rules R163, R170, R172) -/

/-- A word with a selector is of the register form: its ignored low bits are the shift amount and the function code. -/
theorem moveWord_eq_rForm (op : BitVec 6) (sel rt rd : Reg) (b : BitVec 11) :
    op ++ sel ++ rt ++ rd ++ b = rForm op sel rt rd (b.extractLsb' 6 5) (b.extractLsb' 0 6) := by
  refine BitVec.eq_of_getLsbD_eq fun k hk => ?_
  simp only [rForm, BitVec.getLsbD_append, BitVec.getLsbD_extractLsb']
  grind

/-- The moves look at no bit of a word below `rd`. -/
theorem decode_moveWord {i : Instr} {op : BitVec 6} {sel rt rd : Reg} {b : BitVec 11} (hi : i.WellFormed)
    (hused : i.row.used = 0xFFFFF800#32) (hword : encode i = rForm op sel rt rd 0#5 0#6) :
    decode (op ++ sel ++ rt ++ rd ++ b) = .ok i := by
  refine decode_of_and_used hi ?_
  rw [hused, moveWord_eq_rForm, and_selector_rt_rd, hword]
  simp

/-- RFE is told from the other COP0 functions by its function code alone (rule R349). -/
theorem decode_rfeWord (b : BitVec 19) : decode (0x10#6 ++ 1#1 ++ b ++ 0x10#6) = .ok .rfe := by
  have hop : opOf (0x10#6 ++ 1#1 ++ b ++ 0x10#6) = 0x10#6 :=
    (field_high (by decide)).trans <| (field_high (by decide)).trans <| (field_high (by decide)).trans
      BitVec.extractLsb'_eq_self
  have hco : coOf (0x10#6 ++ 1#1 ++ b ++ 0x10#6) = 1#1 :=
    (field_high (by decide)).trans <| (field_high (by decide)).trans field_low
  have hfunct : functOf (0x10#6 ++ 1#1 ++ b ++ 0x10#6) = 0x10#6 := field_low
  rw [decode_cop0 hop, decodeCop0, if_pos hco, if_pos hfunct]

theorem cop0_wellFormed_of_toNat {cofun : BitVec 25} (h : cofun.toNat % 64 ≠ 0x10) :
    (Instr.cop0 cofun).WellFormed :=
  (cop0_wellFormed_iff cofun).mpr fun hf => h (by simpa using congrArg BitVec.toNat hf)

/-! ### Usability (rules R343, R344) -/

/-- An instruction behind the check of a coprocessor that is not usable takes CpU with its number. -/
theorem traps_of_unusable {i : Instr} {z : BitVec 2} {s : State} {r : Result} (he : exec i s = whenUsable z s r)
    (h : ¬ s.copUsable z = true) : Traps i s 11 (some z) none :=
  traps_of_raise (e := .cpU z) (he.trans (whenUsable_no (Bool.eq_false_iff.mpr h) r))

theorem traps_of_no_cop0 {i : Instr} {s : State} {r : Result} (he : exec i s = whenUsable 0#2 s r)
    (h : ¬ Cop0Usable s) : Traps i s 11 (some 0) none :=
  traps_of_unusable he ((copUsable_zero s).not.mpr h)

theorem traps_of_no_cop2 {i : Instr} {s : State} {r : Result} (he : exec i s = whenUsable 2#2 s r)
    (h : ¬ Cop2Usable s) : Traps i s 11 (some 2) none :=
  traps_of_unusable he ((copUsable_two s).not.mpr h)

theorem whenUsable_cop0 {s : State} (h : Cop0Usable s) (r : Result) : whenUsable 0#2 s r = r :=
  whenUsable_yes ((copUsable_zero s).mpr h) r

theorem whenUsable_cop2 {s : State} (h : Cop2Usable s) (r : Result) : whenUsable 2#2 s r = r :=
  whenUsable_yes ((copUsable_two s).mpr h) r

/-- The coprocessors but COP0 are usable exactly with their CU bit, in every mode. -/
theorem copUsable_of_ne_zero {z : BitVec 2} (h : z ≠ 0#2) (s : State) :
    s.copUsable z = s.cop0.sr.getLsbD (28 + z.toNat) := if_neg h

theorem RetiresCop0.cop0_eq {s t : State} {c : Cop0} (h : RetiresCop0 s t c) : t.cop0 = c := by
  obtain ⟨-, -, -, hc, -⟩ := h
  exact hc

/-! ### MFC0 (rule R345) -/

theorem yields_mfc0_value {rt rd : Reg} {s : State} {v : Word} (hu : Cop0Usable s)
    (hv : cop0Value rd s.cop0 = some v) : Yields (.mfc0 rt rd) s fun t => RetiresLoading s t rt v := by
  have read : cop0Read rd s = (v, s) := by rw [cop0Read, hv]
  refine yields_loading ((whenUsable_cop0 hu _).trans ?_)
  rw [read]

theorem yields_mfc0_draw {rt rd : Reg} {s : State} (hu : Cop0Usable s) (hv : cop0Value rd s.cop0 = none) :
    Yields (.mfc0 rt rd) s fun t => RetiresDrawing s t rt := by
  have read : cop0Read rd s = s.drawWord := by rw [cop0Read, hv]
  have he : exec (.mfc0 rt rd) s = complete (s.drawWord.2.setXLate rt (Config.freeWord s.draws)) := by
    refine (whenUsable_cop0 hu _).trans ?_
    rw [read]
    rfl
  exact ⟨_, he, ⟨rfl, rfl, rfl, rfl⟩, regsStepped_setLate rfl, ⟨rfl, rfl⟩, rfl, ⟨rfl, rfl⟩, fun _ _ => rfl, ⟨rfl, rfl⟩,
    ⟨rfl, rfl, rfl⟩, rfl⟩

/-- Settles O47: by the value each register number reads, or the draw where it reads none. -/
theorem moveFromCop0 : Obligations.MoveFromCop0 := by
  refine ⟨fun rt rd _ => decode_moveWord (i := .mfc0 rt rd) rfl rfl rfl, fun _ _ _ => traps_of_no_cop0 rfl,
    fun rt s hu => ?_⟩
  exact ⟨yields_mfc0_value hu rfl, yields_mfc0_value hu rfl, yields_mfc0_value hu rfl, yields_mfc0_value hu rfl,
    yields_mfc0_value hu rfl, yields_mfc0_value hu rfl, yields_mfc0_value hu rfl, yields_mfc0_value hu rfl,
    yields_mfc0_value hu rfl, yields_mfc0_value hu rfl, fun _ hr => yields_mfc0_draw hu (cop0Value_none s.cop0 hr)⟩

/-! ### MTC0 (rules R62, R64, R346) -/

/-- MTC0 writes the bank that `cop0Write` says, but for a non-zero value to DCIC. -/
theorem yields_mtc0 {rt rd : Reg} {s : State} {c : Cop0} (hu : Cop0Usable s)
    (hd : cop0RegOf rd = .dcic → s.x rt = 0#32) (hc : cop0Write rd (s.x rt) s.cop0 = c) :
    Yields (.mtc0 rt rd) s fun t => RetiresCop0 s t c :=
  hc ▸ yields_cop0 ((whenUsable_cop0 hu _).trans (if_neg fun ⟨hr, hv⟩ => hv (hd hr)))

/-- The registers that ignore a write (rules R65 to R69). -/
theorem cop0Write_ignored {rd : Reg} (v : Word) (c : Cop0)
    (h : rd.toNat ≤ 2 ∨ rd = 4 ∨ rd = 6 ∨ rd = 8 ∨ rd = 10 ∨ 14 ≤ rd.toNat) :
    cop0RegOf rd ≠ .dcic ∧ cop0Write rd v c = c := by
  have hr : cop0RegOf rd = .absent ∨ cop0RegOf rd = .jumpDest ∨ cop0RegOf rd = .badVaddr ∨ cop0RegOf rd = .epc ∨
      cop0RegOf rd = .prid := by
    revert rd
    decide
  unfold cop0Write
  rcases hr with hr | hr | hr | hr | hr <;> rw [hr] <;> exact ⟨nofun, rfl⟩

/-- The bits of CAUSE that MTC0 writes are 9:8 (rule R64). -/
theorem writeCause_getLsbD (cause v : Word) {k : Nat} (hk : k < 32) :
    (writeCause cause v).getLsbD k = if k = 8 ∨ k = 9 then v.getLsbD k else cause.getLsbD k := by
  simp only [writeCause, BitVec.getLsbD_append, BitVec.getLsbD_extractLsb']
  grind

/-- Settles O48: by what `cop0Write` does for each register number. -/
theorem moveToCop0 : Obligations.MoveToCop0 := by
  refine ⟨fun rt rd _ => decode_moveWord (i := .mtc0 rt rd) rfl rfl rfl, fun _ _ _ => traps_of_no_cop0 rfl,
    fun rt s hu => ?_⟩
  refine ⟨yields_mtc0 hu nofun rfl, ?_, yields_mtc0 hu nofun rfl, yields_mtc0 hu nofun rfl, yields_mtc0 hu nofun rfl,
    yields_mtc0 hu nofun rfl, fun hv => ?_, fun hv => ?_, fun rd hr => ?_⟩
  · obtain ⟨t, ht, hret⟩ := yields_mtc0 (rd := 13) hu nofun rfl
    have hcause : t.cop0.cause = writeCause s.cop0.cause (s.x rt) := congrArg Cop0.cause hret.cop0_eq
    refine ⟨t, ht, ?_⟩
    beta_reduce
    rw [hcause]
    exact ⟨hret, fun k hk => writeCause_getLsbD _ _ hk⟩
  · exact yields_mtc0 hu (fun _ => hv) (by rw [hv]; rfl)
  · exact (whenUsable_cop0 hu _).trans (if_pos ⟨rfl, hv⟩)
  · obtain ⟨hd, hc⟩ := cop0Write_ignored (s.x rt) s.cop0 hr
    exact yields_mtc0 hu (fun h => absurd h hd) hc

/-! ### RFE (rule R349) -/

theorem popStatus_low (sr : Word) : (popStatus sr).extractLsb' 0 4 = sr.extractLsb' 2 4 := field_low

theorem popStatus_high (sr : Word) : (popStatus sr).extractLsb' 4 28 = sr.extractLsb' 4 28 :=
  (field_high (by decide)).trans BitVec.extractLsb'_eq_self

/-- Settles O15: the decoded words, and the fields of `popStatus`. -/
theorem rfePopsTheStatusStack : Obligations.RfePopsTheStatusStack := by
  refine ⟨decode_rfeWord, fun s hu => ?_, fun _ => traps_of_no_cop0 rfl⟩
  have hexec : exec .rfe s = complete s.restoreStatus := whenUsable_cop0 hu _
  obtain ⟨t, ht, hret⟩ := yields_cop0 hexec
  have hsr : t.cop0.sr = popStatus s.cop0.sr := congrArg Cop0.sr hret.cop0_eq
  refine ⟨t, ht, ?_⟩
  beta_reduce
  rw [hsr]
  exact ⟨hret, popStatus_low _, popStatus_high _⟩

/-! ### Moves of COP2 (rules R351 to R354) -/

/-- One register of a bank written, register 0 too (rule R80). -/
theorem bank_set_getElem (bank : Vector Word 32) (r k : Reg) (v : Word) :
    (bank.set r.toNat v)[k.toNat] = (onlyReg r v k).getD bank[k.toNat] := by
  rw [Vector.getElem_set, onlyReg]
  by_cases h : k = r
  · rw [if_pos (congrArg BitVec.toNat h.symm), if_pos h, Option.getD_some]
  · rw [if_neg fun hn => h (BitVec.eq_of_toNat_eq hn.symm), if_neg h, Option.getD_none]

theorem yields_cop2d {i : Instr} {s u : State} {r : Reg} {v : Word}
    (h : exec i s = complete { u with cop2d := u.cop2d.set r.toNat v }) :
    Yields i s fun t => RetiresCop2 u t (onlyReg r v) noReg :=
  ⟨_, h, ⟨rfl, rfl, rfl, rfl⟩, regsStepped_tick rfl, ⟨rfl, rfl⟩, rfl, fun k => bank_set_getElem u.cop2d r k v,
    fun _ => rfl, outsideKept_of_eq rfl rfl rfl rfl rfl rfl rfl⟩

theorem yields_cop2c {i : Instr} {s u : State} {r : Reg} {v : Word}
    (h : exec i s = complete { u with cop2c := u.cop2c.set r.toNat v }) :
    Yields i s fun t => RetiresCop2 u t noReg (onlyReg r v) :=
  ⟨_, h, ⟨rfl, rfl, rfl, rfl⟩, regsStepped_tick rfl, ⟨rfl, rfl⟩, rfl, fun _ => rfl,
    fun k => bank_set_getElem u.cop2c r k v, outsideKept_of_eq rfl rfl rfl rfl rfl rfl rfl⟩

/-- Settles O52: two ways a move of COP2 ends, each behind the usability check. -/
theorem movesOfCop2 : Obligations.MovesOfCop2 := by
  refine ⟨fun rt rd _ => ?_, ?_, fun rt rd s hu => ?_⟩
  · exact ⟨decode_moveWord (i := .mfc2 rt rd) rfl rfl rfl, decode_moveWord (i := .cfc2 rt rd) rfl rfl rfl,
      decode_moveWord (i := .mtc2 rt rd) rfl rfl rfl, decode_moveWord (i := .ctc2 rt rd) rfl rfl rfl⟩
  · rintro i ⟨rt, rd, rfl | rfl | rfl | rfl⟩ s <;> exact traps_of_no_cop2 rfl
  · exact ⟨yields_loading (whenUsable_cop2 hu _), yields_loading (whenUsable_cop2 hu _),
      yields_cop2d (whenUsable_cop2 hu _), yields_cop2c (whenUsable_cop2 hu _)⟩

/-! ### What is refused where it is usable (rules R344, R347, R348, R350, R357, R358) -/

theorem Unimplemented.exec_eq {i : Instr} {z : BitVec 2} (h : Unimplemented i z) (s : State) :
    exec i s = whenUsable z s (.refused .unimplemented) := by
  cases h <;> rfl

/-- Settles O50: the words by their encodings, the answers by `Unimplemented.exec_eq`. -/
theorem unimplementedFunctionsAreRefused : Obligations.UnimplementedFunctionsAreRefused := by
  refine ⟨fun rt rd _ => ?_, fun rs rt imm => ?_, fun imm => ?_, fun cofun h => ?_, fun cofun => ?_, fun i s => ?_⟩
  · exact ⟨decode_moveWord (i := .cfc0 rt rd) rfl rfl rfl, decode_moveWord (i := .ctc0 rt rd) rfl rfl rfl⟩
  · exact ⟨decode_of_encode_eq (i := .lwc0 rt rs imm) rfl rfl, decode_of_encode_eq (i := .swc0 rt rs imm) rfl rfl⟩
  · exact ⟨decode_of_encode_eq (i := .bc0f imm) rfl rfl, decode_of_encode_eq (i := .bc0t imm) rfl rfl,
      decode_of_encode_eq (i := .bc2f imm) rfl rfl, decode_of_encode_eq (i := .bc2t imm) rfl rfl⟩
  · exact decode_of_encode_eq (i := .cop0 cofun) (cop0_wellFormed_of_toNat h) rfl
  · exact decode_of_encode_eq (i := .cop2 cofun) rfl rfl
  · exact ⟨fun h => ⟨fun hu => (h.exec_eq s).trans (whenUsable_cop0 hu _), traps_of_no_cop0 (h.exec_eq s)⟩,
      fun h => ⟨fun hu => (h.exec_eq s).trans (whenUsable_cop2 hu _), traps_of_no_cop2 (h.exec_eq s)⟩⟩

theorem AbsentCop.exec_eq {i : Instr} {z : BitVec 2} (h : AbsentCop i z) (s : State) :
    exec i s = whenUsable z s (.refused .noCoprocessor) := by
  cases h <;> rfl

/-- COP0 is not absent. -/
theorem AbsentCop.ne_zero {i : Instr} {z : BitVec 2} (h : AbsentCop i z) : z ≠ 0#2 := by
  cases h <;> decide

/-- Settles O51: by `AbsentCop.exec_eq`, with the CU bit as the usability check. -/
theorem absentCoprocessors : Obligations.AbsentCoprocessors := by
  refine ⟨fun body => ?_, fun rs rt imm => ?_, fun i z s h => ?_⟩
  · exact ⟨decode_of_encode_eq (i := .cop1 body) rfl rfl, decode_of_encode_eq (i := .cop3 body) rfl rfl⟩
  · exact ⟨decode_of_encode_eq (i := .lwc1 rt rs imm) rfl rfl, decode_of_encode_eq (i := .lwc3 rt rs imm) rfl rfl,
      decode_of_encode_eq (i := .swc1 rt rs imm) rfl rfl, decode_of_encode_eq (i := .swc3 rt rs imm) rfl rfl⟩
  · rw [← copUsable_of_ne_zero h.ne_zero]
    exact ⟨fun hu => traps_of_unusable (h.exec_eq s) (Bool.eq_false_iff.mp hu),
      fun hu => (h.exec_eq s).trans (whenUsable_yes hu _)⟩

/-! ### LWC2 and SWC2 (rules R355, R356) -/

theorem exec_lwc2_usable {rt rs : Reg} {imm : BitVec 16} {s : State} (hu : Cop2Usable s) :
    exec (.lwc2 rt rs imm) s =
      afterAccess (memRead (effectiveAddress s rs imm) 4 s) s fun v u =>
        complete { u with cop2d := u.cop2d.set rt.toNat v } :=
  whenUsable_cop2 hu _

theorem exec_swc2_usable {rt rs : Reg} {imm : BitVec 16} {s : State} (hu : Cop2Usable s) :
    exec (.swc2 rt rs imm) s =
      afterAccess (memWrite (effectiveAddress s rs imm) 4 s.cop2d[rt.toNat] s) s fun _ u => complete u :=
  whenUsable_cop2 hu _

/-- Settles O53: past the usability check, MemRead's and MemWrite's checks in their order. -/
theorem loadAndStoreOfCop2 : Obligations.LoadAndStoreOfCop2 := by
  intro rt rs imm s ea
  refine ⟨decode_of_encode_eq (i := .lwc2 rt rs imm) rfl rfl, decode_of_encode_eq (i := .swc2 rt rs imm) rfl rfl,
    fun hu => ⟨traps_of_no_cop2 rfl hu, traps_of_no_cop2 rfl hu⟩, fun hu => ⟨fun hb => ?_, fun ha hp => ?_⟩⟩
  all_goals
    have hload := exec_lwc2_usable (rt := rt) (rs := rs) (imm := imm) hu
    have hstore := exec_swc2_usable (rt := rt) (rs := rs) (imm := imm) hu
  · exact ⟨traps_of_access hload (memRead_bad hb), traps_of_access hstore (memWrite_bad hb)⟩
  · rw [memWrite_good ha hp] at hstore
    obtain ⟨storeIsolated, storeUnmapped, storeLocated⟩ := storeChecked_outcomes hstore
    refine ⟨fun hi => ⟨?_, storeIsolated hi⟩, fun hi hn => ⟨?_, storeUnmapped hi hn⟩,
      fun hi l0 l1 l2 l3 hl => ⟨⟨_, _, _, _, _, readBytes_readsBytes [l0, l1, l2, l3] s, ?_⟩,
        storeLocated hi _ rfl hl⟩⟩
    · rw [hload, memRead_isolated ha hp hi, afterAccess_refused]
    · exact traps_of_access hload (memRead_unmapped ha hp hi hn)
    · have hword : littleEndian (readBytes [l0, l1, l2, l3] s).1 = wordOfBytes _ _ _ _ := littleEndian_four ..
      rw [memRead_located ha hp hi hl rfl, afterAccess_done, hword] at hload
      exact yields_cop2d hload

/-! ### CpU only where the coprocessor is not usable (rule R343) -/

/-- Whatever next state `r` answers has not ended with CpU. -/
def NeverCpU (r : Result) : Prop := ∀ t, r = .next t → t.lastStep ≠ some (.excepted 11)

theorem complete_neverCpU (s : State) : NeverCpU (complete s) := by
  rintro t ⟨⟩
  exact nofun

theorem refused_neverCpU (r : Refusal) : NeverCpU (.refused r) := nofun

theorem afterAccess_neverCpU {α : Type} {a : Access α} {s : State} {go : α → State → Result}
    (he : ∀ e, a = .raised e → e.code ≠ 11) (hgo : ∀ v u, NeverCpU (go v u)) : NeverCpU (afterAccess a s go) := by
  intro t ht
  obtain ⟨e, ha, rfl⟩ | ⟨v, u, -, hv⟩ := afterAccess_next ht
  · simpa using he e ha
  · exact hgo v u t hv

/-- What a MemRead that raises raises (rule R127). -/
theorem memRead_raised {a : Word} {n : Nat} {s : State} {e : Exc} (h : memRead a n s = .raised e) :
    e = .adEL a ∨ e = .dbe a := by
  unfold memRead at h
  split at h
  next hc =>
    cases h
    exact .inl (addressCheck_eq_some hc)
  next =>
    split at h
    · cases h
    · split at h <;> cases h
      exact .inr rfl

/-- What a MemWrite that raises raises (rule R127). -/
theorem memWrite_raised {a v : Word} {n : Nat} {s : State} {e : Exc} (h : memWrite a n v s = .raised e) :
    e = .adES a ∨ e = .dbe a := by
  unfold memWrite at h
  split at h
  next hc =>
    cases h
    exact .inl (addressCheck_eq_some hc)
  next =>
    unfold storeChecked at h
    split at h
    · cases h
    · split at h <;> cases h
      exact .inr rfl

theorem memRead_neverCpU {a : Word} {n : Nat} {s : State} {go : Word → State → Result}
    (hgo : ∀ v u, NeverCpU (go v u)) : NeverCpU (afterAccess (memRead a n s) s go) :=
  afterAccess_neverCpU (fun e h => by rcases memRead_raised h with rfl | rfl <;> exact nofun) hgo

theorem store_neverCpU {n : Nat} {v : Word} {rs : Reg} {imm : BitVec 16} {s : State} :
    NeverCpU (store n v rs imm s) :=
  afterAccess_neverCpU (fun e h => by rcases memWrite_raised h with rfl | rfl <;> exact nofun)
    fun _ _ => complete_neverCpU _

/-- EVERY COP0 AND COP2 INSTRUCTION is a usability check before an effect that does not end with CpU. -/
theorem CopInstr.exec_eq {i : Instr} {z : BitVec 2} (h : CopInstr i z) (s : State) :
    ∃ r, exec i s = whenUsable z s r ∧ NeverCpU r := by
  cases h with
  | refused h => exact ⟨_, h.exec_eq s, refused_neverCpU _⟩
  | mfc0 | rfe | mfc2 | cfc2 | mtc2 | ctc2 => exact ⟨_, rfl, complete_neverCpU _⟩
  | mtc0 =>
    refine ⟨_, rfl, ?_⟩
    split
    · exact refused_neverCpU _
    · exact complete_neverCpU _
  | lwc2 => exact ⟨_, rfl, memRead_neverCpU fun _ _ => complete_neverCpU _⟩
  | swc2 => exact ⟨_, rfl, store_neverCpU⟩

/-- Settles O49: by `CopInstr.exec_eq`. -/
theorem unusableCoprocessorTraps : Obligations.UnusableCoprocessorTraps := by
  refine fun i s => ⟨fun h => ?_, fun h => ?_⟩
  all_goals obtain ⟨r, he, hr⟩ := h.exec_eq s
  · exact ⟨traps_of_no_cop0 he, fun hu t ht => hr t ((whenUsable_cop0 hu r).symm.trans (he.symm.trans ht))⟩
  · exact ⟨traps_of_no_cop2 he, fun hu t ht => hr t ((whenUsable_cop2 hu r).symm.trans (he.symm.trans ht))⟩

end Sys2Proof.Machine

/-! PROOFS about exceptions: what one instruction can answer, exception entry and the return from it, interrupts, the
change of mode, and what user mode can learn of COP0 (spec/60_exceptions.md). -/

namespace Sys2Proof.Machine

/-! ### The fetched word (rules R128, R400) -/

/-- A fetch changes nothing but the router's inputs and events, and the draw counter. -/
theorem fetchWord_frame {a w : Word} {s u : State} (h : fetchWord a s = .done w u) :
    u = { s with ioAnswers := u.ioAnswers, ioTrace := u.ioTrace, draws := u.draws } := by
  obtain ⟨-, ls, -, -, rfl⟩ := fetchWord_done h
  exact readBytes_frame ls s

/-- Settles O6: past the sampling and the fetch, a step is `runWord`. -/
theorem stepRunsTheDecodedInstruction : Obligations.StepRunsTheDecodedInstruction := by
  intro s u w i hf hd
  rw [step_of_fetches hf, runWord, hd]

/-! ### Exception entry and its undoing (rules R410, R414, R349) -/

/-- Settles O12: `enter_enters` for each exception. -/
theorem exceptionEntryRecords : Obligations.ExceptionEntryRecords := fun s =>
  ⟨enter_enters s .int, fun a => enter_enters s (.adEL a), fun a => enter_enters s (.adES a),
    fun a => enter_enters s (.ibe a), fun a => enter_enters s (.dbe a), enter_enters s .sys, enter_enters s .bp,
    enter_enters s .ri, fun z => enter_enters s (.cpU z), enter_enters s .ov⟩

/-- Words that agree on the bits of a field have the same field. -/
theorem extractLsb'_congr {a b : Word} {start len : Nat}
    (h : ∀ k, start ≤ k → k < start + len → a.getLsbD k = b.getLsbD k) :
    a.extractLsb' start len = b.extractLsb' start len := by
  refine BitVec.eq_of_getLsbD_eq fun j hj => ?_
  rw [BitVec.getLsbD_extractLsb', BitVec.getLsbD_extractLsb', h (start + j) (by omega) (by omega)]

/-- Exception entry enters kernel mode (rule R414). -/
theorem pushStatus_kernelMode (sr : Word) : (pushStatus sr).getLsbD 1 = false := by
  rw [pushStatus, BitVec.getLsbD_append]
  rfl

/-- The pairs that exception entry pushed: the current and previous ones of before, as previous and old (rule R414). -/
theorem pushStatus_pushed (sr : Word) : (pushStatus sr).extractLsb' 2 4 = sr.extractLsb' 0 4 :=
  (field_high (by decide)).trans field_low

theorem pushStatus_old (sr : Word) : (pushStatus sr).extractLsb' 4 2 = sr.extractLsb' 2 2 := by
  have h : (pushStatus sr).extractLsb' 4 2 = (sr.extractLsb' 0 4).extractLsb' 2 2 :=
    (field_high (by decide)).trans (field_inside (by decide))
  rw [h, BitVec.extractLsb'_extractLsb'_of_le (by decide)]

/-- Settles O16: entry leaves kernel mode, where RFE is usable, and RFE moves back what entry pushed. -/
theorem rfeUndoesExceptionEntry : Obligations.RfeUndoesExceptionEntry := by
  intro s u v e hsr hv
  have hpush : u.cop0.sr = pushStatus s.cop0.sr := hsr
  have husable : Cop0Usable u := .inl (by rw [hpush, pushStatus_kernelMode])
  have hpop : v.cop0.sr = popStatus (pushStatus s.cop0.sr) := by
    have hexec : exec .rfe u = complete u.restoreStatus := whenUsable_cop0 husable _
    rw [hexec] at hv
    cases hv
    rw [← hpush]
    rfl
  rw [hpop]
  refine ⟨?_, ?_, ?_⟩
  · rw [popStatus_low, pushStatus_pushed]
  · rw [extractLsb'_congr fun k hk _ => popStatus_bit_of_ge _ hk, pushStatus_old]
  · exact extractLsb'_congr fun k hk _ => (popStatus_bit_of_ge _ (by omega)).trans (pushStatus_bit_of_ge _ hk)

/-! ### The interrupt lines (rules R63, R420) -/

/-- CAUSE[15:10] and the recorded level of `s` are `level`, and the levels still to come are `rest`. -/
def LinesShow (level : BitVec 6) (rest : List (BitVec 6)) (s : State) : Prop :=
  s.cop0.cause.extractLsb' 10 6 = level ∧ s.intLines = level ∧ s.lineInputs = rest

theorem nextLines_eq (level : BitVec 6) (inputs : List (BitVec 6)) :
    nextLines level inputs = (inputs.head?.getD level, inputs.tail) := by
  cases inputs <;> rfl

theorem sampleLines_linesShow (s : State) :
    LinesShow (s.lineInputs.head?.getD s.intLines) s.lineInputs.tail s.sampleLines := by
  rw [LinesShow, State.sampleLines_cop0, State.sampleLines_intLines, State.sampleLines_lineInputs, nextLines_eq]
  exact ⟨(field_high (by decide)).trans field_low, rfl, rfl⟩

/-- MTC0 does not write CAUSE[15:10], whatever the register (rules R64, R346). -/
theorem cop0Write_cause_lines (r : Reg) (v : Word) (c : Cop0) :
    (cop0Write r v c).cause.extractLsb' 10 6 = c.cause.extractLsb' 10 6 := by
  unfold cop0Write
  cases cop0RegOf r with
  | cause => exact extractLsb'_congr fun k hk _ => writeCause_bit_of_other _ _ (.inr hk)
  | bpc | bda | dcic | bdam | bpcm | sr | jumpDest | badVaddr | epc | prid | absent => rfl

section

variable {level : BitVec 6} {rest : List (BitVec 6)} {s : State}

theorem LinesShow.readBytes (h : LinesShow level rest s) (ls : List Loc) :
    LinesShow level rest (readBytes ls s).2 := by
  rw [readBytes_frame]
  exact h

theorem LinesShow.enter (h : LinesShow level rest s) (e : Exc) : LinesShow level rest (s.enter e) := by
  obtain ⟨hcause, hlevel, hrest⟩ := h
  exact ⟨(extractLsb'_congr fun k _ _ => enterCause_bit_of_other _ _ _ _ (by omega)).trans hcause, hlevel, hrest⟩

/-- No effect of an instruction touches the lines. -/
theorem Effect.linesShow {u : State} (e : Effect s u) (h : LinesShow level rest s) : LinesShow level rest u := by
  cases e with
  | nothing | writeReg | writeHiLo | moveToReg | drawToReg | returnFromException | writeCop2d | writeCop2c => exact h
  | loadReg ls | loadCop2d ls => exact h.readBytes ls
  | storeBytes _ _ ls v =>
    rw [writeBytes_frame]
    exact h
  | writeCop0 r v =>
    obtain ⟨hcause, hlevel, hrest⟩ := h
    exact ⟨(cop0Write_cause_lines r v s.cop0).trans hcause, hlevel, hrest⟩

theorem Ends.linesShow {t : State} (e : Ends s t) (h : LinesShow level rest s) : LinesShow level rest t := by
  obtain ⟨x, rfl⟩ | ⟨u, b, g, hu, rfl⟩ := e
  · exact h.enter x
  · exact hu.linesShow h

end

/-- Settles O9: the sampling shows the level, and the rest of the step keeps it. -/
theorem causeFollowsTheLines : Obligations.CauseFollowsTheLines := by
  intro s t h
  have hs := sampleLines_linesShow s
  obtain ⟨e, rfl⟩ | ⟨w, u, hf, hu⟩ := step_ends h
  · exact hs.enter e
  · obtain ⟨-, ls, -, -, rfl⟩ := fetchWord_done hf
    exact hu.linesShow (hs.readBytes ls)

/-! ### What one instruction answers

`Ends` says what an instruction can change. Said here: which exceptions it can raise, and which COP0 registers it leaves
behind. -/

/-- The exceptions an instruction raises: every one but Int and IBE, which precede it, and RI, which takes the place of
one (rules R400, R403, R411). -/
inductive Exc.OfInstr : Exc → Prop where
  | adEL (a : Word) : OfInstr (.adEL a)
  | adES (a : Word) : OfInstr (.adES a)
  | dbe (a : Word) : OfInstr (.dbe a)
  | sys : OfInstr .sys
  | bp : OfInstr .bp
  | cpU (z : BitVec 2) : OfInstr (.cpU z)
  | ov : OfInstr .ov

theorem Exc.OfInstr.code_cases {e : Exc} (h : e.OfInstr) :
    e.code = 4 ∨ e.code = 5 ∨ e.code = 7 ∨ e.code = 8 ∨ e.code = 9 ∨ e.code = 11 ∨ e.code = 12 := by
  cases h <;> simp [Exc.code]

theorem addressError_ofInstr (k : AccessKind) (a : Word) : (addressError k a).OfInstr := by
  cases k with
  | load => exact .adEL a
  | store => exact .adES a

theorem memRead_raises_ofInstr {a : Word} {n : Nat} {s : State} {e : Exc} (h : memRead a n s = .raised e) :
    e.OfInstr := by
  obtain rfl | rfl := memRead_raised h
  · exact .adEL a
  · exact .dbe a

theorem memWrite_raises_ofInstr {a v : Word} {n : Nat} {s : State} {e : Exc} (h : memWrite a n v s = .raised e) :
    e.OfInstr := by
  obtain rfl | rfl := memWrite_raised h
  · exact .adES a
  · exact .dbe a

theorem storeChecked_raises_ofInstr {a v : Word} {n : Nat} {s : State} {e : Exc}
    (h : storeChecked a n v s = .raised e) : e.OfInstr := by
  unfold storeChecked at h
  split at h
  · cases h
  · split at h <;> cases h
    exact .dbe a

/-- The COP0 registers after an instruction that retires: only MTC0 and RFE change them (rules R346, R349). -/
def cop0After (i : Instr) (s : State) : Cop0 :=
  match i with
  | .mtc0 rt rd => cop0Write rd (s.x rt) s.cop0
  | .rfe => { s.cop0 with sr := popStatus s.cop0.sr }
  | _ => s.cop0

/-- An instruction's answer from `s`: an exception of its own, a refusal, or a retire with the COP0 registers `c`. -/
inductive Concludes (s : State) (c : Cop0) : Result → Prop where
  | enters {e : Exc} (he : e.OfInstr) : Concludes s c (.next (s.enter e))
  | refuses (r : Refusal) : Concludes s c (.refused r)
  | retires {u : State} {b : Bool} {g : Option Word} (hc : u.cop0 = c) : Concludes s c (.next (u.retire b g))

section

variable {s : State} {c : Cop0}

theorem afterAccess_concludes {α : Type} {a : Access α} {go : α → State → Result}
    (he : ∀ e, a = .raised e → e.OfInstr) (hgo : ∀ v u, a = .done v u → Concludes s c (go v u)) :
    Concludes s c (afterAccess a s go) := by
  cases a with
  | done v u => exact hgo v u rfl
  | raised e => exact .enters (he e rfl)
  | refused r => exact .refuses r

theorem memRead_concludes {a : Word} {n : Nat} {f : Word → State → State} (hf : ∀ v u, (f v u).cop0 = u.cop0) :
    Concludes s s.cop0 (afterAccess (memRead a n s) s fun v u => complete (f v u)) := by
  refine afterAccess_concludes (fun e => memRead_raises_ofInstr) fun v u h => .retires ?_
  obtain ⟨-, -, ls, -, -, rfl⟩ := memRead_done h
  rw [hf, readBytes_frame]

theorem storeChecked_concludes {a v : Word} {n : Nat} :
    Concludes s s.cop0 (afterAccess (storeChecked a n v s) s fun _ u => complete u) := by
  refine afterAccess_concludes (fun e => storeChecked_raises_ofInstr) fun _ u h => .retires ?_
  obtain ⟨-, rfl⟩ | ⟨ls, -, rfl⟩ := storeChecked_done h
  · rfl
  · rw [writeBytes_frame]

theorem store_concludes {n : Nat} {v : Word} {rs : Reg} {imm : BitVec 16} :
    Concludes s s.cop0 (store n v rs imm s) := by
  unfold store memWrite
  cases hc : addressCheck .store (s.ea rs imm) n s with
  | none => exact storeChecked_concludes
  | some e => exact .enters (addressCheck_eq_some hc ▸ addressError_ofInstr _ _)

theorem loadPartial_concludes {merge : Word → Word → Nat → Word} {rt rs : Reg} {imm : BitVec 16} :
    Concludes s s.cop0 (loadPartial merge rt rs imm s) := by
  unfold loadPartial
  dsimp only
  split
  next e hc => exact .enters (addressCheck_eq_some hc ▸ addressError_ofInstr _ _)
  next => exact memRead_concludes fun _ _ => rfl

theorem storePartial_concludes {ea addr v : Word} {n : Nat} : Concludes s s.cop0 (storePartial ea addr n v s) := by
  unfold storePartial
  split
  next e hc => exact .enters (addressCheck_eq_some hc ▸ addressError_ofInstr _ _)
  next => exact storeChecked_concludes

theorem whenUsable_concludes {z : BitVec 2} {r : Result} (h : Concludes s c r) : Concludes s c (whenUsable z s r) := by
  unfold whenUsable
  split
  · exact h
  · exact .enters (.cpU z)

theorem writeBackOrOverflow_concludes {rd : Reg} {r : Option Word} :
    Concludes s s.cop0 (writeBackOrOverflow rd r s) := by
  cases r with
  | none => exact .enters .ov
  | some v => exact .retires rfl

theorem execMtc0_concludes {rt rd : Reg} : Concludes s (cop0After (.mtc0 rt rd) s) (execMtc0 rt rd s) := by
  refine whenUsable_concludes ?_
  split
  · exact .refuses _
  · exact .retires rfl

theorem execMfc0_concludes {rt rd : Reg} : Concludes s s.cop0 (execMfc0 rt rd s) := by
  refine whenUsable_concludes (.retires ?_)
  obtain h | h := cop0Read_state rd s <;> rw [h] <;> rfl

end

/-- EVERY INSTRUCTION concludes in one of the three ways. -/
theorem exec_concludes (i : Instr) (s : State) : Concludes s (cop0After i s) (exec i s) := by
  cases i with
  | sll | srl | sra | sllv | srlv | srav | mfhi | mthi | mflo | mtlo | mult | multu | div | divu | addu | subu | and | or
  | xor | nor | slt | sltu | addiu | slti | sltiu | andi | ori | xori | lui => exact .retires rfl
  | jr | jalr | j | jal | bltz | bgez | bltzal | bgezal | beq | bne | blez | bgtz => exact .retires rfl
  | add | sub | addi => exact writeBackOrOverflow_concludes
  | syscall => exact .enters .sys
  | brk => exact .enters .bp
  | lb | lh | lw | lbu | lhu => exact memRead_concludes fun _ _ => rfl
  | lwl | lwr => exact loadPartial_concludes
  | sb | sh | sw => exact store_concludes
  | swl | swr => exact storePartial_concludes
  | mfc0 => exact execMfc0_concludes
  | mtc0 => exact execMtc0_concludes
  | rfe | mfc2 | cfc2 | mtc2 | ctc2 => exact whenUsable_concludes (.retires rfl)
  | lwc2 => exact whenUsable_concludes (memRead_concludes fun _ _ => rfl)
  | swc2 => exact whenUsable_concludes store_concludes
  | cfc0 | ctc0 | bc0f | bc0t | cop0 | lwc0 | swc0 | bc2f | bc2t | cop2 | cop1 | lwc1 | swc1 | cop3 | lwc3 | swc3 =>
    exact whenUsable_concludes (.refuses _)

/-- An instruction that excepts is an entry, from the state before it, of an exception it can raise (rule R402). -/
theorem exec_excepted {i : Instr} {s t : State} {c : BitVec 5} (h : exec i s = .next t)
    (hc : t.lastStep = some (.excepted c)) : ∃ e : Exc, e.OfInstr ∧ t = s.enter e ∧ c = e.code := by
  have hi := exec_concludes i s
  rw [h] at hi
  cases hi with
  | enters he =>
    cases hc
    exact ⟨_, he, rfl, rfl⟩
  | retires => cases hc

/-- Only CpU carries a coprocessor number (rule R410). -/
theorem Exc.ce_eq_none {e : Exc} (h : e.code ≠ 11) : e.ce = none := by
  cases e with
  | cpU => exact absurd rfl h
  | int | adEL | adES | ibe | dbe | sys | bp | ri | ov => rfl

/-- Only the address errors carry an address for BadVaddr (rule R412). -/
theorem Exc.badVaddr_eq_none {e : Exc} (h4 : e.code ≠ 4) (h5 : e.code ≠ 5) : e.badVaddr = none := by
  cases e with
  | adEL => exact absurd rfl h4
  | adES => exact absurd rfl h5
  | int | ibe | dbe | sys | bp | ri | cpU | ov => rfl

/-- Settles O13: `exec_excepted`, and what each exception carries. -/
theorem exceptedInstructionHasNoOtherEffect : Obligations.ExceptedInstructionHasNoOtherEffect := by
  intro i s t c h hc
  obtain ⟨e, he, rfl, rfl⟩ := exec_excepted h hc
  exact ⟨e.ce, e.badVaddr, enter_enters s e, Exc.ce_eq_none, Exc.badVaddr_eq_none, he.code_cases⟩

/-! ### Interrupts (rules R421, R400) -/

theorem ne_zero_iff_exists_bit {w : Nat} (v : BitVec w) : v ≠ 0#w ↔ ∃ k, k < w ∧ v.getLsbD k = true := by
  refine ⟨fun h => ?_, fun ⟨k, _, hk⟩ h => by simp [h] at hk⟩
  by_contra hn
  refine h (BitVec.eq_of_getLsbD_eq fun k hk => ?_)
  rw [BitVec.getLsbD_zero]
  exact Bool.eq_false_iff.mpr fun hb => hn ⟨k, hk, hb⟩

/-- The interrupt condition, bit by bit (rule R421). -/
theorem interruptTaken_iff (s : State) :
    s.interruptTaken = true ↔
      s.cop0.sr.getLsbD 0 = true ∧
        ∃ k, k < 8 ∧ s.cop0.sr.getLsbD (8 + k) = true ∧ s.cop0.cause.getLsbD (8 + k) = true := by
  rw [State.interruptTaken, Bool.and_eq_true, State.requestUnmasked, bne_iff_ne, ne_zero_iff_exists_bit]
  refine and_congr_right fun _ => exists_congr fun k => and_congr_right fun hk => ?_
  rw [BitVec.getLsbD_and, Bool.and_eq_true, BitVec.getLsbD_extractLsb', BitVec.getLsbD_extractLsb']
  simp [hk]

theorem step_interrupted {s : State} (h : s.sampleLines.interruptTaken = true) :
    step s = .next (s.sampleLines.enter .int) := if_pos h

theorem step_of_no_interrupt {s : State} (h : s.sampleLines.interruptTaken = false) :
    step s = afterAccess (fetchWord s.pc s.sampleLines) s.sampleLines (runWord exec) :=
  if_neg (Bool.eq_false_iff.mp h)

/-- What a FetchWord that raises raises (rule R128). -/
theorem fetchWord_raised {a : Word} {s : State} {e : Exc} (h : fetchWord a s = .raised e) :
    e = .adEL a ∨ e = .ibe a := by
  unfold fetchWord at h
  split at h
  next hc =>
    cases h
    exact .inl (addressCheck_eq_some hc)
  next =>
    split at h <;> cases h
    exact .inr rfl

/-- A word that is no instruction of the table raises RI or CpU, where it is not refused (rules R173 to R175, R343). -/
theorem rejectWord_raised {r : Reject} {s t : State} (h : rejectWord r s = .next t) :
    t = s.enter .ri ∨ ∃ z, t = s.enter (.cpU z) := by
  cases r with
  | reservedInstruction =>
    cases h
    exact .inl rfl
  | undecodedBcond => cases h
  | reservedCop0 | reservedCop2 =>
    obtain ⟨-, rfl⟩ | ⟨-, hn⟩ := whenUsable_next h
    · exact .inr ⟨_, rfl⟩
    · cases hn
      exact .inl rfl
  | undefinedBc0 | undefinedBc2 =>
    obtain ⟨-, rfl⟩ | ⟨-, hn⟩ := whenUsable_next h
    · exact .inr ⟨_, rfl⟩
    · cases hn

/-- Where no interrupt is taken, neither the fetch nor the fetched word ends the step with Int. -/
theorem step_not_interrupted {s t : State} (hn : s.sampleLines.interruptTaken = false) (h : step s = .next t) :
    t.lastStep ≠ some (.excepted 0) := by
  intro hc
  rw [step_of_no_interrupt hn] at h
  obtain ⟨e, he, rfl⟩ | ⟨w, u, -, hr⟩ := afterAccess_next h
  · obtain rfl | rfl := fetchWord_raised he <;> cases hc
  · unfold runWord at hr
    split at hr
    · obtain ⟨e, he, -, h0⟩ := exec_excepted hr hc
      cases he <;> cases h0
    · obtain rfl | ⟨z, rfl⟩ := rejectWord_raised hr <;> cases hc

/-- Settles O10: `interruptTaken_iff`, and the step on either side of it. -/
theorem interruptIsTakenExactlyWhenEnabledAndUnmasked :
    Obligations.InterruptIsTakenExactlyWhenEnabledAndUnmasked := by
  intro s u ready
  have hready : u.interruptTaken = true ↔ ready := interruptTaken_iff u
  refine ⟨fun h => ⟨_, step_interrupted (hready.mpr h), enter_enters u .int⟩, fun h t ht => ?_⟩
  exact step_not_interrupted (Bool.eq_false_iff.mpr fun hi => h (hready.mp hi)) ht

/-! ### How a step ends (rules R401, R52, R415) -/

/-- No effect of an instruction moves the program counters; retire does. -/
theorem Effect.npc_eq {s u : State} (e : Effect s u) : u.npc = s.npc := by
  cases e with
  | nothing | writeReg | writeHiLo | moveToReg | drawToReg | writeCop0 | returnFromException | writeCop2d
  | writeCop2c => rfl
  | loadReg ls r v =>
    show (readBytes ls s).2.npc = s.npc
    rw [readBytes_frame]
  | loadCop2d ls v =>
    show (readBytes ls s).2.npc = s.npc
    rw [readBytes_frame]
  | storeBytes _ _ ls v => rw [writeBytes_frame]

/-- A next state was retired to or excepted to. -/
theorem step_lastStep {s t : State} (h : step s = .next t) :
    (t.lastStep = some .retired ∧ t.pc = s.npc) ∨ ∃ c, t.lastStep = some (.excepted c) := by
  obtain ⟨e, rfl⟩ | ⟨w, u, hf, ⟨e, rfl⟩ | ⟨v, b, g, hv, rfl⟩⟩ := step_ends h
  · exact .inr ⟨_, rfl⟩
  · exact .inr ⟨_, rfl⟩
  · refine .inl ⟨rfl, hv.npc_eq.trans ?_⟩
    rw [fetchWord_frame hf, State.sampleLines_npc]

theorem Exc.code_range (e : Exc) : e.code = 0 ∨ (4 ≤ e.code.toNat ∧ e.code.toNat ≤ 12) := by
  cases e <;> simp [Exc.code]

/-- Settles O11: a retire by `step_lastStep`, an exception by `step_excepted`. -/
theorem stepRetiresOrEntersTheVector : Obligations.StepRetiresOrEntersTheVector := by
  refine fun s => ⟨fun _ => step_not_fault, fun t h => (step_lastStep h).imp_right fun ⟨c, hc⟩ => ?_⟩
  obtain ⟨u, e, rfl, -, -, hsr⟩ := step_excepted h hc
  obtain ⟨-, -, -, -, -, -, -, -, -, hvector, hnext, hslot, hlast, -⟩ := enter_enters u e
  rw [hsr] at hvector
  exact ⟨e.code, hlast, e.code_range, hslot, hvector, hnext⟩

/-! ### The mode (rules R430, R431) -/

theorem enter_kernelMode (s : State) (e : Exc) : (s.enter e).cop0.sr.getLsbD 1 = false := pushStatus_kernelMode _

/-- MTC0 changes SR only as register 12 (rules R60, R346). -/
theorem cop0Write_sr_of_ne {r : Reg} (h : r ≠ 12) (v : Word) (c : Cop0) : (cop0Write r v c).sr = c.sr := by
  have hr : cop0RegOf r ≠ .sr := by
    revert r
    decide
  unfold cop0Write
  cases hreg : cop0RegOf r with
  | sr => exact absurd hreg hr
  | bpc | bda | dcic | bdam | bpcm | cause | jumpDest | badVaddr | epc | prid | absent => rfl

/-- A coprocessor 0 instruction that retires is usable. -/
theorem cop0Usable_of_retired {s t : State} {r : Result} (h : whenUsable 0#2 s r = .next t)
    (ht : t.lastStep = some .retired) : Cop0Usable s := by
  obtain ⟨-, rfl⟩ | ⟨hu, -⟩ := whenUsable_next h
  · cases ht
  · exact (copUsable_zero s).mp hu

/-- An instruction that leaves another SR and retires is RFE or MTC0 to SR, where COP0 is usable. -/
theorem exec_changes_sr {i : Instr} {s t : State} (h : exec i s = .next t) (hsr : t.cop0.sr ≠ s.cop0.sr) :
    (∃ e, t = s.enter e) ∨ Cop0Usable s ∧ (i = .rfe ∨ ∃ rt, i = .mtc0 rt 12) := by
  have hi := exec_concludes i s
  rw [h] at hi
  cases hi with
  | enters => exact .inl ⟨_, rfl⟩
  | retires hc =>
    have hne : (cop0After i s).sr ≠ s.cop0.sr := hc ▸ hsr
    refine .inr ?_
    cases i with
    | rfe => exact ⟨cop0Usable_of_retired h rfl, .inl rfl⟩
    | mtc0 rt rd =>
      refine ⟨cop0Usable_of_retired h rfl, .inr ⟨rt, congrArg _ ?_⟩⟩
      by_contra hrd
      exact hne (cop0Write_sr_of_ne hrd _ _)
    | _ => exact absurd rfl hne

/-- The sampling and the fetch leave SR as it was. -/
theorem Fetches.sr_eq {s u : State} {w : Word} (h : Fetches s w u) : u.cop0.sr = s.cop0.sr := by
  obtain ⟨-, hf⟩ := h
  rw [fetchWord_frame hf, State.sampleLines_cop0]

/-- A step enters an exception, or runs the instruction that it fetched. -/
theorem step_enters_or_runs {s t : State} (h : step s = .next t) :
    (∃ u e, t = State.enter u e) ∨ ∃ w u i, Fetches s w u ∧ decode w = .ok i ∧ exec i u = .next t := by
  by_cases hi : s.sampleLines.interruptTaken = true
  · rw [step_interrupted hi] at h
    cases h
    exact .inl ⟨_, _, rfl⟩
  · rw [Bool.not_eq_true] at hi
    rw [step_of_no_interrupt hi] at h
    obtain ⟨e, -, rfl⟩ | ⟨w, u, hf, hr⟩ := afterAccess_next h
    · exact .inl ⟨_, e, rfl⟩
    · unfold runWord at hr
      split at hr
      next i hd => exact .inr ⟨w, u, i, ⟨hi, hf⟩, hd, hr⟩
      next r hd =>
        obtain ⟨e, rfl⟩ := rejectWord_next hr
        exact .inl ⟨u, e, rfl⟩

/-- Reset enters kernel mode (rules R61, R450). -/
theorem resetStatus_kernelMode (draw : Word) : (resetStatus draw).getLsbD 1 = false := by
  simp [resetStatus, srWriteMask, srBevMask]

/-- Settles O14: an exception enters kernel mode, and `exec_changes_sr` names the instructions that change SR. -/
theorem modeChangesOnlyByEntryRfeAndMtc0 : Obligations.ModeChangesOnlyByEntryRfeAndMtc0 := by
  refine ⟨fun s t h hmode => ?_, fun d s t h => ?_⟩
  · obtain ⟨u, e, rfl⟩ | ⟨w, u, i, hf, hd, he⟩ := step_enters_or_runs h
    · exact .inl ⟨⟨_, rfl⟩, enter_kernelMode u e⟩
    · have hsr : t.cop0.sr ≠ u.cop0.sr := fun hsr => hmode (by rw [hsr, hf.sr_eq])
      obtain ⟨e, rfl⟩ | ⟨hu, hi⟩ := exec_changes_sr he hsr
      · exact .inl ⟨⟨_, rfl⟩, enter_kernelMode u e⟩
      · rw [Cop0Usable, hf.sr_eq] at hu
        refine .inr ⟨w, u, hf, hu, ?_⟩
        obtain rfl | ⟨rt, rfl⟩ := hi
        · exact .inl hd
        · exact .inr ⟨rt, hd⟩
  · unfold applyReset at h
    split at h
    · cases h
      exact resetStatus_kernelMode d.sr
    · cases h

/-! ### What user mode can learn of COP0 (rules R430, R343, R345) -/

/-- `s` with the COP0 registers of `h` that user mode can neither read nor feel. -/
def State.withPrivileged (h : Cop0) (s : State) : State :=
  { s with
    cop0 :=
      { s.cop0 with
        bpc := h.bpc, bda := h.bda, dcic := h.dcic, badVaddr := h.badVaddr, bdam := h.bdam, bpcm := h.bpcm
        epc := h.epc } }

theorem sameButPrivileged_iff (s t : State) : SameButPrivileged s t ↔ t = s.withPrivileged t.cop0 := Iff.rfl

/-- Two answers that are refusals for the same reason, or next states that differ only in those registers. -/
inductive Alike : Result → Result → Prop where
  | next {s t : State} (h : SameButPrivileged s t) : Alike (.next s) (.next t)
  | refused (r : Refusal) : Alike (.refused r) (.refused r)

theorem Alike.of_next {s : State} {r : Result} (h : Alike (.next s) r) : ∃ t, r = .next t ∧ SameButPrivileged s t := by
  cases h with
  | next hst => exact ⟨_, rfl, hst⟩

theorem Alike.of_refused {e : Refusal} {r : Result} (h : Alike (.refused e) r) : r = .refused e := by
  cases h
  rfl

/-- An access's answer, with the state after it holding those registers of `h`. -/
def Access.withPrivileged {α : Type} (h : Cop0) : Access α → Access α
  | .done v s => .done v (s.withPrivileged h)
  | .raised e => .raised e
  | .refused r => .refused r

section

variable (h : Cop0) (s : State)

/-- A byte read does not look at COP0. -/
theorem readByte_withPrivileged (l : Loc) :
    readByte l (s.withPrivileged h) = ((readByte l s).1, (readByte l s).2.withPrivileged h) := by
  unfold readByte
  split
  · unfold State.ioRead
    cases hq : s.ioAnswers <;> simp [State.withPrivileged, hq]
  all_goals rfl

theorem readBytes_withPrivileged (ls : List Loc) :
    readBytes ls (s.withPrivileged h) = ((readBytes ls s).1, (readBytes ls s).2.withPrivileged h) := by
  induction ls generalizing s with
  | nil => rfl
  | cons l ls ih => simp only [readBytes, readByte_withPrivileged, ih]

/-- A byte write does not look at COP0. -/
theorem writeByte_withPrivileged (l : Loc) (b : Byte) :
    writeByte l b (s.withPrivileged h) = (writeByte l b s).withPrivileged h := by
  unfold writeByte
  split <;> rfl

theorem writeBytes_withPrivileged (ls : List Loc) (v : Word) :
    writeBytes ls v (s.withPrivileged h) = (writeBytes ls v s).withPrivileged h := by
  induction ls generalizing v s with
  | nil => rfl
  | cons l ls ih => simp only [writeBytes, writeByte_withPrivileged, ih]

/-- The address checks look at SR alone. -/
theorem addressCheck_withPrivileged (k : AccessKind) (a : Word) (n : Nat) :
    addressCheck k a n (s.withPrivileged h) = addressCheck k a n s := rfl

@[simp] theorem State.withPrivileged_isolated : (s.withPrivileged h).isolated = s.isolated := rfl

@[simp] theorem State.withPrivileged_cfg : (s.withPrivileged h).cfg = s.cfg := rfl

theorem memRead_withPrivileged (a : Word) (n : Nat) :
    memRead a n (s.withPrivileged h) = (memRead a n s).withPrivileged h := by
  simp only [memRead, addressCheck_withPrivileged, readBytes_withPrivileged, State.withPrivileged_isolated,
    State.withPrivileged_cfg]
  cases addressCheck .load a n s with
  | some e => rfl
  | none => cases s.isolated <;> cases translateAll s.cfg a n <;> rfl

theorem storeChecked_withPrivileged (a : Word) (n : Nat) (v : Word) :
    storeChecked a n v (s.withPrivileged h) = (storeChecked a n v s).withPrivileged h := by
  simp only [storeChecked, writeBytes_withPrivileged, State.withPrivileged_isolated, State.withPrivileged_cfg]
  cases s.isolated <;> cases translateAll s.cfg a n <;> rfl

theorem memWrite_withPrivileged (a : Word) (n : Nat) (v : Word) :
    memWrite a n v (s.withPrivileged h) = (memWrite a n v s).withPrivileged h := by
  simp only [memWrite, addressCheck_withPrivileged, storeChecked_withPrivileged]
  cases addressCheck .store a n s <;> rfl

theorem fetchWord_withPrivileged (a : Word) :
    fetchWord a (s.withPrivileged h) = (fetchWord a s).withPrivileged h := by
  simp only [fetchWord, addressCheck_withPrivileged, readBytes_withPrivileged, State.withPrivileged_cfg]
  cases addressCheck .load a 4 s with
  | some e => rfl
  | none => cases translateAll s.cfg a 4 <;> rfl

/-! ### The same instruction from two such states -/

variable {h s}

/-- Exception entry overwrites EPC, and BadVaddr for an address error: both with what the shared fields give. -/
theorem raise_alike (e : Exc) : Alike (raise e s) (raise e (s.withPrivileged h)) := .next rfl

theorem afterAccess_alike {α : Type} {a : Access α} {go go' : α → State → Result}
    (hgo : ∀ v u, a = .done v u → Alike (go v u) (go' v (u.withPrivileged h))) :
    Alike (afterAccess a s go) (afterAccess (a.withPrivileged h) (s.withPrivileged h) go') := by
  cases a with
  | done v u => exact hgo v u rfl
  | raised e => exact raise_alike e
  | refused r => exact .refused r

theorem whenUsable_alike {z : BitVec 2} {r r' : Result} (hr : s.copUsable z = true → Alike r r') :
    Alike (whenUsable z s r) (whenUsable z (s.withPrivileged h) r') := by
  have hz : (s.withPrivileged h).copUsable z = s.copUsable z := rfl
  rw [whenUsable, whenUsable, hz]
  split
  next hu => exact hr hu
  next => exact raise_alike _

theorem writeBackOrOverflow_alike {rd : Reg} {r : Option Word} :
    Alike (writeBackOrOverflow rd r s) (writeBackOrOverflow rd r (s.withPrivileged h)) := by
  cases r with
  | none => exact raise_alike .ov
  | some v => exact .next rfl

theorem load_alike {n : Nat} {f : Word → Word} {rt rs : Reg} {imm : BitVec 16} :
    Alike (load n f rt rs imm s) (load n f rt rs imm (s.withPrivileged h)) := by
  unfold load
  rw [memRead_withPrivileged]
  exact afterAccess_alike fun v u _ => .next rfl

theorem store_alike {n : Nat} {v : Word} {rs : Reg} {imm : BitVec 16} :
    Alike (store n v rs imm s) (store n v rs imm (s.withPrivileged h)) := by
  unfold store
  rw [memWrite_withPrivileged]
  exact afterAccess_alike fun _ u _ => .next rfl

theorem loadPartial_alike {merge : Word → Word → Nat → Word} {rt rs : Reg} {imm : BitVec 16} :
    Alike (loadPartial merge rt rs imm s) (loadPartial merge rt rs imm (s.withPrivileged h)) := by
  have hea : (s.withPrivileged h).ea rs imm = s.ea rs imm := rfl
  simp only [loadPartial, hea, addressCheck_withPrivileged, memRead_withPrivileged]
  split
  · exact raise_alike _
  · exact afterAccess_alike fun v u _ => .next rfl

theorem storePartial_alike {ea addr v : Word} {n : Nat} :
    Alike (storePartial ea addr n v s) (storePartial ea addr n v (s.withPrivileged h)) := by
  simp only [storePartial, addressCheck_withPrivileged, storeChecked_withPrivileged]
  split
  · exact raise_alike _
  · exact afterAccess_alike fun _ u _ => .next rfl

theorem execLwc2_alike {rt rs : Reg} {imm : BitVec 16} :
    Alike (execLwc2 rt rs imm s) (execLwc2 rt rs imm (s.withPrivileged h)) := by
  refine whenUsable_alike fun _ => ?_
  rw [memRead_withPrivileged]
  exact afterAccess_alike fun v u _ => .next rfl

/-- EVERY INSTRUCTION answers alike where COP0 is not usable: MFC0, which could tell the states apart, then takes CpU. -/
theorem exec_alike (i : Instr) (hu : ¬ Cop0Usable s) : Alike (exec i s) (exec i (s.withPrivileged h)) := by
  cases i with
  | sll | srl | sra | sllv | srlv | srav | mfhi | mthi | mflo | mtlo | mult | multu | div | divu | addu | subu | and | or
  | xor | nor | slt | sltu | addiu | slti | sltiu | andi | ori | xori | lui => exact .next rfl
  | jr | jalr | j | jal | bltz | bgez | bltzal | bgezal | beq | bne | blez | bgtz => exact .next rfl
  | add | sub | addi => exact writeBackOrOverflow_alike
  | syscall | brk => exact raise_alike _
  | lb | lh | lw | lbu | lhu => exact load_alike
  | lwl | lwr => exact loadPartial_alike
  | sb | sh | sw => exact store_alike
  | swl | swr => exact storePartial_alike
  | mfc0 | mtc0 => exact whenUsable_alike fun h0 => absurd ((copUsable_zero s).mp h0) hu
  | rfe | mfc2 | cfc2 | mtc2 | ctc2 => exact whenUsable_alike fun _ => .next rfl
  | lwc2 => exact execLwc2_alike
  | swc2 => exact whenUsable_alike fun _ => store_alike
  | cfc0 | ctc0 | bc0f | bc0t | cop0 | lwc0 | swc0 | bc2f | bc2t | cop2 | cop1 | lwc1 | swc1 | cop3 | lwc3 | swc3 =>
    exact whenUsable_alike fun _ => .refused _

theorem rejectWord_alike (r : Reject) : Alike (rejectWord r s) (rejectWord r (s.withPrivileged h)) := by
  cases r with
  | reservedInstruction => exact raise_alike .ri
  | undecodedBcond => exact .refused _
  | reservedCop0 | reservedCop2 => exact whenUsable_alike fun _ => raise_alike .ri
  | undefinedBc0 | undefinedBc2 => exact whenUsable_alike fun _ => .refused _

theorem runWord_alike (w : Word) (hu : ¬ Cop0Usable s) :
    Alike (runWord exec w s) (runWord exec w (s.withPrivileged h)) := by
  unfold runWord
  split
  · exact exec_alike _ hu
  · exact rejectWord_alike _

/-- Two such states sample the same lines, take the same interrupts, fetch the same word and run it alike. -/
theorem step_alike (hu : ¬ Cop0Usable s) : Alike (step s) (step (s.withPrivileged h)) := by
  have hs : (s.withPrivileged h).sampleLines = s.sampleLines.withPrivileged h := rfl
  have hi : (s.sampleLines.withPrivileged h).interruptTaken = s.sampleLines.interruptTaken := rfl
  have hpc : (s.sampleLines.withPrivileged h).pc = s.sampleLines.pc := rfl
  rw [step, step, cycle, cycle, hs, afterSample, afterSample, hi, hpc, fetchWord_withPrivileged]
  split
  · exact raise_alike .int
  · refine afterAccess_alike fun w u hf => runWord_alike w ?_
    rwa [Cop0Usable, fetchWord_frame hf]

end

/-- Settles O58: `step_alike`, read for each kind of answer. -/
theorem userModeCannotReadCop0 : Obligations.UserModeCannotReadCop0 := by
  intro s t hst huser hcu0
  have hu : ¬ Cop0Usable s := by
    rw [Cop0Usable, huser, hcu0]
    decide
  have ha : Alike (step s) (step t) := (sameButPrivileged_iff s t).mp hst ▸ step_alike hu
  exact ⟨fun s' hs' => (hs' ▸ ha).of_next, fun r hr => (hr ▸ ha).of_refused⟩

end Sys2Proof.Machine


/-! PROOFS about reset: the bits it leaves in SR and CAUSE, the state it leaves, and the invariant it establishes for every
draw. -/

namespace Sys2Proof.Machine

/-! ### SR and CAUSE at reset (rules R61, R63, R450) -/

/-- Reset sets BEV, clears IEc, KUc and the read-0 bits of SR, and draws the rest (rules R61, R450). -/
theorem resetStatus_getLsbD (draw : Word) {k : Nat} (hk : k < 32) :
    (resetStatus draw).getLsbD k =
      if k = 22 then true
      else if k = 0 ∨ k = 1 ∨ k = 6 ∨ k = 7 ∨ k = 23 ∨ k = 24 ∨ k = 26 ∨ k = 27 then false
      else draw.getLsbD k := by
  have hkeep : (srWriteMask &&& 0xFFFFFFFC#32).getLsbD k =
      !decide (k = 0 ∨ k = 1 ∨ k = 6 ∨ k = 7 ∨ k = 23 ∨ k = 24 ∨ k = 26 ∨ k = 27) := by
    revert k; decide
  have hbev : srBevMask.getLsbD k = decide (k = 22) := by revert k; decide
  rw [resetStatus, BitVec.and_assoc, BitVec.getLsbD_or, BitVec.getLsbD_and, hkeep, hbev]
  split_ifs with h22 h0
  · simp [h22]
  · simp [h22, h0]
  · simp [h22, h0]

/-- Reset draws ExcCode, IP[1:0], CE and BD, and clears the rest of CAUSE (rules R63, R450). -/
theorem resetCause_getLsbD (draw : Word) {k : Nat} (hk : k < 32) :
    (resetCause draw).getLsbD k =
      if (2 ≤ k ∧ k ≤ 6) ∨ k = 8 ∨ k = 9 ∨ k = 28 ∨ k = 29 ∨ k = 31 then draw.getLsbD k else false := by
  have hdrawn : (0xB000037C#32).getLsbD k =
      decide ((2 ≤ k ∧ k ≤ 6) ∨ k = 8 ∨ k = 9 ∨ k = 28 ∨ k = 29 ∨ k = 31) := by
    revert k; decide
  rw [resetCause, BitVec.getLsbD_and, hdrawn]
  split_ifs with h
  · simp [h]
  · simp [h]

/-- No draw reaches a read-0 bit of SR (rule R61). -/
theorem resetStatus_reserved (draw : Word) : resetStatus draw &&& 0x0D8000C0#32 = 0#32 := by
  rw [resetStatus, BitVec.and_or_distrib_right, BitVec.and_assoc, BitVec.and_assoc]
  simp [srWriteMask, srBevMask]

/-- No draw reaches a read-0 bit of CAUSE (rule R63). -/
theorem resetCause_reserved (draw : Word) : resetCause draw &&& 0x4FFF0083#32 = 0#32 := by
  rw [resetCause, BitVec.and_assoc, show 0xB000037C#32 &&& 0x4FFF0083#32 = 0#32 from rfl, BitVec.and_zero]

/-! ### The state after reset (rules R450, R451) -/

/-- Settles O55: the two answers of `applyReset`, with SR and CAUSE bit by bit. -/
theorem resetLeaves : Obligations.ResetLeaves := by
  intro d s
  constructor
  · intro hbad
    rw [applyReset, hbad]
    rfl
  · intro hvalid
    refine ⟨_, if_pos hvalid, ?_, rfl, rfl, ?_, ?_, rfl, rfl, rfl, rfl, rfl, rfl, rfl, rfl, rfl, rfl, rfl, rfl, rfl, rfl,
      rfl, rfl, rfl, rfl⟩
    · exact fun r => ⟨Vector.getElem_replicate _, Vector.getElem_replicate _, Vector.getElem_replicate _⟩
    · exact fun k hk => resetStatus_getLsbD d.sr hk
    · exact fun k hk _ => resetCause_getLsbD d.cause hk

/-- RESET ESTABLISHES THE INVARIANT, whatever the draws, on canonical memory. -/
theorem applyReset_inv {d : ResetDraws} {s t : State} (hm : Memory.wf s.mem = true) (h : applyReset d s = .next t) :
    Inv t := by
  unfold applyReset at h
  split at h
  · cases h
    exact
      { memory := hm
        zero := ⟨rfl, rfl, rfl⟩
        stages := rfl
        reserved := ⟨resetStatus_reserved d.sr, resetCause_reserved d.cause⟩
        sequence := fun _ => rfl }
  · cases h

/-- The draws that `State.reset` stands for (log entry 1). -/
def zeroDraws : ResetDraws :=
  { hi := 0, lo := 0, sr := 0, cause := 0, epc := 0, badVaddr := 0, bpc := 0, bda := 0, bdam := 0, bpcm := 0, dcic := 0
    cop2d := Vector.replicate 32 0, cop2c := Vector.replicate 32 0 }

/-- `State.reset` is what reset leaves of it where every draw is 0. -/
theorem applyReset_zeroDraws : applyReset zeroDraws State.reset = .next State.reset := rfl

/-- Settles O56: `State.reset` is the reset with the draws 0, and reset establishes the invariant for every draw. -/
theorem resetMeetsTheInvariant : Obligations.ResetMeetsTheInvariant :=
  applyReset_inv reset_memory_wf applyReset_zeroDraws

end Sys2Proof.Machine
